-- ==== Sys2Proof/Word.lean ====
section
/-! DEFINITION. Word.lean: the bit vectors that the spec fixes a width for (00_scope.md R10). -/

namespace Sys2Proof

/-- A frame byte: 8 bits, unsigned (20_memory.md R47). -/
abbrev Byte := BitVec 8

/-- A `val` or `val2` field of a response: 32 bits, read as two's complement (30_encoding.md R71). -/
abbrev Word := BitVec 32

/-- A packed request, format `REQ` (30_encoding.md R60). -/
abbrev RequestWord := BitVec 38

/-- A packed response, format `RSP` (30_encoding.md R68). -/
abbrev ResponseWord := BitVec 67

end Sys2Proof
end

