-- ==== Sys2Proof/Syntax.lean ====
section
/-! DEFINITION. Syntax.lean: the operations of the block (30_encoding.md R65), the request and response records
(10_state.md R27, R28) and the spec's assembler forms (30_encoding.md R74, R75). -/

namespace Sys2Proof

/-- The channel kind, a closed enumeration (30_encoding.md R62). -/
inductive ChannelKind where
  | humidity
  | temperature
deriving DecidableEq, Repr

/-- The requested info type; `reserved` stands for every type beyond raw, scale and offset (30_encoding.md R61). -/
inductive InfoType where
  | raw
  | scale
  | offset
  | reserved
deriving DecidableEq, Repr

/-- The four byte fields of a request, in transaction order (10_state.md R27). -/
structure Frame where
  b0 : Byte
  b1 : Byte
  b2 : Byte
  b3 : Byte
deriving DecidableEq, Repr

/-- The request record (10_state.md R27). -/
structure Request where
  info : InfoType
  kind : ChannelKind
  frameLen : BitVec 3
  frame : Frame
deriving DecidableEq, Repr

/-- The eight operations (30_encoding.md R65). Each carries the `frame_len` (a count of bytes) and the frame of its
request, also where it ignores them (20_memory.md R49), so that no bit of a request word is lost in decoding. -/
inductive Instr where
  | rawH (len : Nat) (frame : Frame)
  | rawT (len : Nat) (frame : Frame)
  | scaleH (len : Nat) (frame : Frame)
  | scaleT (len : Nat) (frame : Frame)
  | offsetH (len : Nat) (frame : Frame)
  | offsetT (len : Nat) (frame : Frame)
  | rsvdH (len : Nat) (frame : Frame)
  | rsvdT (len : Nat) (frame : Frame)
deriving DecidableEq, Repr

/-- The info type that selects an operation (30_encoding.md R65). -/
def Instr.info : Instr → InfoType
  | .rawH _ _ => .raw
  | .rawT _ _ => .raw
  | .scaleH _ _ => .scale
  | .scaleT _ _ => .scale
  | .offsetH _ _ => .offset
  | .offsetT _ _ => .offset
  | .rsvdH _ _ => .reserved
  | .rsvdT _ _ => .reserved

/-- The channel kind that selects an operation (30_encoding.md R65). -/
def Instr.kind : Instr → ChannelKind
  | .rawH _ _ => .humidity
  | .rawT _ _ => .temperature
  | .scaleH _ _ => .humidity
  | .scaleT _ _ => .temperature
  | .offsetH _ _ => .humidity
  | .offsetT _ _ => .temperature
  | .rsvdH _ _ => .humidity
  | .rsvdT _ _ => .temperature

/-- The `frame_len` of the request, as a number (30_encoding.md R63). -/
def Instr.frameLen : Instr → Nat
  | .rawH len _ => len
  | .rawT len _ => len
  | .scaleH len _ => len
  | .scaleT len _ => len
  | .offsetH len _ => len
  | .offsetT len _ => len
  | .rsvdH len _ => len
  | .rsvdT len _ => len

/-- The frame bytes of the request (30_encoding.md R64). -/
def Instr.frame : Instr → Frame
  | .rawH _ frame => frame
  | .rawT _ frame => frame
  | .scaleH _ frame => frame
  | .scaleT _ frame => frame
  | .offsetH _ frame => frame
  | .offsetT _ frame => frame
  | .rsvdH _ frame => frame
  | .rsvdT _ frame => frame

/-- The two decoder errors (60_exceptions.md R111, R112). -/
inductive DecodeError where
  | sizeMismatch
  | unsupportedInfoType
deriving DecidableEq, Repr

/-- A result: one integer, or the exact unreduced pair of a scale (30_encoding.md R70). -/
inductive Result where
  | int (val : Word)
  | frac (num den : Word)
deriving DecidableEq, Repr

/-- A response: a result, or an error that carries no value (60_exceptions.md R110, 92_eei_decisions.md D8). -/
inductive Response where
  | ok (r : Result)
  | error (e : DecodeError)
deriving DecidableEq, Repr

/-- A request line of the spec's assembler; a byte `none` is the don't-care byte `_` (30_encoding.md R74). -/
inductive AsmLine where
  | rawH (len : Nat) (bytes : List (Option Byte))
  | rawT (len : Nat) (bytes : List (Option Byte))
  | scaleH
  | scaleT
  | offsetH
  | offsetT
  | rsvdH
  | rsvdT
deriving DecidableEq, Repr

/-- A line of a program: a request, or a pseudo-instruction (30_encoding.md R75). -/
inductive AsmItem where
  | request (line : AsmLine)
  | readH (len : Nat) (bytes : List (Option Byte))
  | readT (len : Nat) (bytes : List (Option Byte))
deriving DecidableEq, Repr

end Sys2Proof
end

