-- ==== Sys2Proof/WellFormed.lean ====
section
/-! DEFINITION. WellFormed.lean: which terms of the syntax a request word can carry. -/

namespace Sys2Proof

/-- `frame_len` has 3 bits, so it is 0 to 7 (30_encoding.md R63); every value of the other fields is encodable. -/
abbrev Instr.WellFormed (i : Instr) : Prop := i.frameLen ≤ 7

/-- An assembler operand list: a length of 0 to 7 and at most four bytes (30_encoding.md R74). -/
abbrev AsmOperandsWellFormed (len : Nat) (bytes : List (Option Byte)) : Prop := len ≤ 7 ∧ bytes.length ≤ 4

/-- The check of an assembler line (30_encoding.md R74). -/
def AsmLine.wellFormed : AsmLine → Bool
  | .rawH len bytes => decide (AsmOperandsWellFormed len bytes)
  | .rawT len bytes => decide (AsmOperandsWellFormed len bytes)
  | .scaleH => true
  | .scaleT => true
  | .offsetH => true
  | .offsetT => true
  | .rsvdH => true
  | .rsvdT => true

/-- The check of a program line (30_encoding.md R75). -/
def AsmItem.wellFormed : AsmItem → Bool
  | .request line => line.wellFormed
  | .readH len bytes => decide (AsmOperandsWellFormed len bytes)
  | .readT len bytes => decide (AsmOperandsWellFormed len bytes)

end Sys2Proof
end

