-- ==== Sys2Proof/Decode.lean ====
section
/-! DEFINITION. Decode.lean: request words to operations and back (30_encoding.md R60 to R66, 20_memory.md R46).
No 38-bit word is illegal (R66); the one thing that is rejected, by name, is a number that is no 38-bit word (R73). -/

namespace Sys2Proof

/-- Field `info` (30_encoding.md R61). -/
def InfoType.ofCode (c : BitVec 2) : InfoType :=
  if c = 0 then .raw else if c = 1 then .scale else if c = 2 then .offset else .reserved

/-- The code of an info type (30_encoding.md R61). -/
def InfoType.code : InfoType → BitVec 2
  | .raw => 0
  | .scale => 1
  | .offset => 2
  | .reserved => 3

/-- Field `kind` (30_encoding.md R62). -/
def ChannelKind.ofCode (c : BitVec 1) : ChannelKind :=
  if c = 0 then .humidity else .temperature

/-- The code of a channel kind (30_encoding.md R62). -/
def ChannelKind.code : ChannelKind → BitVec 1
  | .humidity => 0
  | .temperature => 1

/-- The fields of a request word (30_encoding.md R60, 20_memory.md R46). -/
def requestOf (w : RequestWord) : Request where
  info := .ofCode (w.extractLsb' 36 2)
  kind := .ofCode (w.extractLsb' 35 1)
  frameLen := w.extractLsb' 32 3
  frame := ⟨w.extractLsb' 24 8, w.extractLsb' 16 8, w.extractLsb' 8 8, w.extractLsb' 0 8⟩

/-- The word of a request record (30_encoding.md R60, 20_memory.md R46). -/
def Request.word (r : Request) : RequestWord :=
  r.info.code ++ r.kind.code ++ r.frameLen ++ r.frame.b0 ++ r.frame.b1 ++ r.frame.b2 ++ r.frame.b3

/-- The operation that a request's info type and kind select (30_encoding.md R65). -/
def select (info : InfoType) (kind : ChannelKind) (len : Nat) (frame : Frame) : Instr :=
  match info, kind with
  | .raw, .humidity => .rawH len frame
  | .raw, .temperature => .rawT len frame
  | .scale, .humidity => .scaleH len frame
  | .scale, .temperature => .scaleT len frame
  | .offset, .humidity => .offsetH len frame
  | .offset, .temperature => .offsetT len frame
  | .reserved, .humidity => .rsvdH len frame
  | .reserved, .temperature => .rsvdT len frame

/-- The decoder, total on the 2^38 request words (30_encoding.md R66). -/
def decode (w : RequestWord) : Instr :=
  select (requestOf w).info (requestOf w).kind (requestOf w).frameLen.toNat (requestOf w).frame

/-- The request record of a well-formed operation. -/
def Instr.request (i : Instr) : Request where
  info := i.info
  kind := i.kind
  frameLen := BitVec.ofNat 3 i.frameLen
  frame := i.frame

/-- The encoder: the request word of a well-formed operation (30_encoding.md R60). -/
def encode (i : Instr) : RequestWord := i.request.word

/-- A row of the operation map (30_encoding.md R65). -/
structure OpRow where
  info : InfoType
  kind : ChannelKind
  mask : RequestWord
  bits : RequestWord
deriving DecidableEq, Repr

/-- The operation map, as the spec writes it (30_encoding.md R65). -/
def opTable : List OpRow :=
  [ ⟨.raw, .humidity, 0x3800000000, 0x0000000000⟩,
    ⟨.raw, .temperature, 0x3800000000, 0x0800000000⟩,
    ⟨.scale, .humidity, 0x3800000000, 0x1000000000⟩,
    ⟨.scale, .temperature, 0x3800000000, 0x1800000000⟩,
    ⟨.offset, .humidity, 0x3800000000, 0x2000000000⟩,
    ⟨.offset, .temperature, 0x3800000000, 0x2800000000⟩,
    ⟨.reserved, .humidity, 0x3800000000, 0x3000000000⟩,
    ⟨.reserved, .temperature, 0x3800000000, 0x3800000000⟩ ]

/-- Why a number is no request. -/
inductive DecodeReject where
  /-- A bit above bit 37 is set: every request is exactly 38 bits (30_encoding.md R73). -/
  | widerThanRequest
deriving DecidableEq, Repr

/-- The decoder on a number of any size. -/
def decodeBits (w : Nat) : Except DecodeReject Instr :=
  if w < 2 ^ 38 then .ok (decode (BitVec.ofNat 38 w)) else .error .widerThanRequest

/-- The bits of a request whose low `nbits` bits are those of `w` and whose other bits are 0. -/
def tableWord (nbits w : Nat) : Nat := w % 2 ^ nbits

/-- The operation the decoder reads from a word of the opcode table. A request is one 38-bit word, not a sequence of
stored words, so no byte order enters. -/
def decodeTableWord (nbits w : Nat) : Option Instr :=
  (decodeBits (tableWord nbits w)).toOption

end Sys2Proof
end

