-- ==== Sys2Proof/Machine/Operands.lean ====
section
/-! DEFINITION. Machine/Operands.lean: reading frame bytes and assembling the operands of the operations
(20_memory.md R45 to R49, 30_encoding.md R71, R72, 40_decode_raw.md R80 to R87). -/

namespace Sys2Proof.Machine

/-- `frame[i]`: the block's only data read (00_scope.md R13). -/
def frameByte (frame : Frame) (i : Fin 4) : Byte :=
  match i with
  | 0 => frame.b0
  | 1 => frame.b1
  | 2 => frame.b2
  | 3 => frame.b3

/-- The humidity raw count `((frame[0] & 0x3F) << 8) | frame[1]`, exact over the naturals (40_decode_raw.md R81). -/
def rawCountHumidity (frame : Frame) : Nat :=
  ((frameByte frame 0).toNat &&& 0x3F) <<< 8 ||| (frameByte frame 1).toNat

/-- The temperature raw count `(frame[2] << 6) + floor(frame[3] / 4)`, exact over the naturals: the division
truncates and never rounds (40_decode_raw.md R82, R84). -/
def rawCountTemperature (frame : Frame) : Nat :=
  (frameByte frame 2).toNat <<< 6 + (frameByte frame 3).toNat / 4

/-- `zext_32` of a non-negative integer that fits the field (30_encoding.md R71). -/
def zext32 (n : Nat) : Word := BitVec.ofNat 32 n

/-- `sext_32` of an integer that fits the field (30_encoding.md R71). -/
def sext32 (z : Int) : Word := BitVec.ofInt 32 z

end Sys2Proof.Machine
end

