-- ==== Sys2Proof/Machine/State.lean ====
section
/-! DEFINITION. Machine/State.lean: the machine's state and the reasons a read can stop. The block retains no state from
one request to the next (10_state.md R20); what the spec gives it is the response record (R28, R29), the constant tables
(R24, R26; constants in Machine/Tables.lean, as 00_scope.md R9 asks) and the requests presented to it (R27). -/

namespace Sys2Proof.Machine

/-- The machine. -/
structure State where
  /-- The requests presented and not yet answered, first to be answered first (10_state.md R22, R27). The model's own
  field: the request record "not state: supplied by the requester" (R34). Log 1. -/
  pending : List RequestWord
  /-- The response record; `none` where it holds no value (10_state.md R28, R29). -/
  response : Option Response
deriving DecidableEq, Repr

/-- What the spec calls a fault of the model. -/
inductive Fault where
  /-- Raised by `State.readResponse`: the requester reads the response record while it holds no value
  (10_state.md R29, 92_eei_decisions.md D17, 93 U8). Safe: no claim can use a value that is not there. -/
  | noResponse
deriving DecidableEq, Repr

/-- What the model refuses. No step answers with one: all eight operations have their meaning. -/
inductive Refusal where
  /-- An operation without a meaning; none is left. Safe. -/
  | notModelled (mnemonic : String)
  /-- Raised by `readRtype`, `readVal` and `readVal2`: these fields of an error response carry no value
  (30_encoding.md R68, 92_eei_decisions.md D8, 93 U7). Safe. -/
  | errorHasNoValue
  /-- Raised by `readResponseWord`: a consumer that sees `err` code 3 has seen no response of this block
  (60_exceptions.md R113, 93 U10). Safe. -/
  | errCodeThree
  /-- Raised by `readResponseWord`: an INT response word with `val2` not 0 is none of this block's (10_state.md R28,
  30_encoding.md R71). Log 7. Safe. -/
  | notAResponse
deriving DecidableEq, Repr

/-- After power-up or any reinitialisation (10_state.md R34, 70_reset_and_hazards.md R130, R132): the response record
holds no value. That no request has been presented yet is the model's choice (log 1). -/
def State.reset : State where
  pending := []
  response := none

end Sys2Proof.Machine
end

