-- ==== Sys2Proof/Config.lean ====
section
/-! DEFINITION. Config.lean: what is fixed outside the state: the shape of a conversion ROM entry (00_scope.md R9,
10_state.md R24) and the one parameter that the spec leaves open (92_eei_decisions.md D18). The literals of the ROM
stand in Machine/Tables.lean. The block has no free value: no response holds a bit that the spec leaves open. -/

namespace Sys2Proof

/-- One entry of the conversion ROM, the source's ConversionSpec with the frame length its kind determines
(10_state.md R24). -/
structure ConversionSpec where
  num : Nat
  den : Nat
  off : Int
  len : Nat
deriving DecidableEq, Repr

/-- The consumer's rounding `consume_round`, OPEN and under no law (41_conversion.md R98, 92_eei_decisions.md D18):
the type `Out` and the function are arguments wherever it is used, so nothing can be proved of its value. -/
abbrev ConsumeRound (Out : Type) := ℚ → Out

end Sys2Proof
end

