-- ==== Sys2Proof/Machine/Tables.lean ====
section
/-! DEFINITION. Machine/Tables.lean: the block's constant tables, hardwired from power-up and written by no operation
(10_state.md R24, R25, R26, 70_reset_and_hazards.md R131). -/

namespace Sys2Proof.Machine

/-- The conversion ROM (10_state.md R24). The literals are normative (R25, 90_conflicts.md C5). -/
def rom : ChannelKind → ConversionSpec
  | .humidity => { num := 100, den := 16384, off := 0, len := 2 }
  | .temperature => { num := 100, den := 9929, off := -40, len := 4 }

/-- The channel descriptor table `LEGAL` (10_state.md R26). -/
def legal : ChannelKind → InfoType → Bool
  | .humidity, .raw => true
  | .humidity, .scale => true
  | .humidity, .offset => false
  | .humidity, .reserved => false
  | .temperature, .raw => true
  | .temperature, .scale => true
  | .temperature, .offset => true
  | .temperature, .reserved => false

end Sys2Proof.Machine
end

