-- ==== Sys2Proof/Machine/Ops.lean ====
section
/-! DEFINITION. Machine/Ops.lean: the operations that every meaning is built from: taking a request, answering it,
taking an error, the two checks, and the requester's reads of the response record. -/

namespace Sys2Proof.Machine

/-- The outcome of a step of this machine. -/
abbrev Answer := Host.Outcome State Fault Refusal

/-- The requester presents a request (60_exceptions.md R126: any 38-bit word at any time). -/
def State.present (s : State) (w : RequestWord) : State :=
  { s with pending := s.pending ++ [w] }

/-- The next request in the order presented, and the state once it is taken (10_state.md R22). -/
def State.nextRequest (s : State) : Option (RequestWord × State) :=
  match s.pending with
  | [] => none
  | w :: rest => some (w, { s with pending := rest })

/-- While no request is presented the block does nothing, and between requests the response record holds no value
(10_state.md R29). DESIGN CHOICE, log 2. -/
def idle (s : State) : Answer := .next { s with response := none }

/-- Power-up, reset or re-attach (70_reset_and_hazards.md R130, R132). The requests presented are the requester's and
stay (log 9). -/
def State.reinitialise (s : State) : State := { s with response := none }

/-- The one effect of answering a request: the response record holds the answer (30_encoding.md R67, R76). -/
def State.answer (s : State) (r : Response) : State := { s with response := some r }

/-- `respond Int(v)` (00_scope.md R13). -/
def respondInt (v : Word) (s : State) : Answer := .next (s.answer (.ok (.int v)))

/-- `respond Frac(n, d)` (00_scope.md R13). -/
def respondFrac (n d : Word) (s : State) : Answer := .next (s.answer (.ok (.frac n d)))

/-- `raise e`: taking an error (00_scope.md R13, 60_exceptions.md R110, R117). Nothing is saved, no mode changes and no
control is transferred; the whole effect is the error response. There is no return from it (R118). -/
def raiseError (e : DecodeError) (s : State) : Answer := .next (s.answer (.error e))

/-- The descriptor gate, checked before anything an operation checks (41_conversion.md R96, 30_encoding.md R76). -/
def gated (kind : ChannelKind) (info : InfoType) (op : State → Answer) (s : State) : Answer :=
  if legal kind info then op s else raiseError .unsupportedInfoType s

/-- The frame-size check of the RAW operations (40_decode_raw.md R80). -/
def sizeChecked (kind : ChannelKind) (len : Nat) (op : State → Answer) (s : State) : Answer :=
  if len = (rom kind).len then op s else raiseError .sizeMismatch s

/-- The requester reads the response record; reading it while it holds no value is a fault of the model
(10_state.md R29). -/
def State.readResponse (s : State) : Host.Outcome Response Fault Refusal :=
  match s.response with
  | some r => .next r
  | none => .fault .noResponse

end Sys2Proof.Machine
end

