-- ==== Sys2Proof/Machine/Conversion.lean ====
section
/-! DEFINITION. Machine/Conversion.lean: SCALE, OFFSET and RSVD, the source's `scale_for` and `offset_for` behind the
info-type gate (41_conversion.md). None of them reads `frame_len` or a frame byte (20_memory.md R49). -/

namespace Sys2Proof.Machine

/-- SCALE.H (41_conversion.md R90): the ROM's pair, unreduced (R92). -/
def execScaleH (_len : Nat) (_frame : Frame) (s : State) : Answer :=
  gated .humidity .scale (respondFrac (zext32 (rom .humidity).num) (zext32 (rom .humidity).den)) s

/-- SCALE.T (41_conversion.md R91). -/
def execScaleT (_len : Nat) (_frame : Frame) (s : State) : Answer :=
  gated .temperature .scale (respondFrac (zext32 (rom .temperature).num) (zext32 (rom .temperature).den)) s

/-- OFFSET.H (41_conversion.md R94): not legal, so always UnsupportedInfoType (90_conflicts.md C3); log 11. -/
def execOffsetH (_len : Nat) (_frame : Frame) (s : State) : Answer :=
  gated .humidity .offset (raiseError .unsupportedInfoType) s

/-- OFFSET.T (41_conversion.md R93). -/
def execOffsetT (_len : Nat) (_frame : Frame) (s : State) : Answer :=
  gated .temperature .offset (respondInt (sext32 (rom .temperature).off)) s

/-- RSVD.H (41_conversion.md R95): the reserved info code, always UnsupportedInfoType. -/
def execRsvdH (_len : Nat) (_frame : Frame) (s : State) : Answer :=
  gated .humidity .reserved (raiseError .unsupportedInfoType) s

/-- RSVD.T (41_conversion.md R95). -/
def execRsvdT (_len : Nat) (_frame : Frame) (s : State) : Answer :=
  gated .temperature .reserved (raiseError .unsupportedInfoType) s

end Sys2Proof.Machine
end

