-- ==== Sys2Proof/Machine/RawDecode.lean ====
section
/-! DEFINITION. Machine/RawDecode.lean: RAW.H and RAW.T, the source's `decode_raw` (40_decode_raw.md). -/

namespace Sys2Proof.Machine

/-- RAW.H (40_decode_raw.md R81). -/
def execRawH (len : Nat) (frame : Frame) (s : State) : Answer :=
  gated .humidity .raw (sizeChecked .humidity len (respondInt (zext32 (rawCountHumidity frame)))) s

/-- RAW.T (40_decode_raw.md R82). -/
def execRawT (len : Nat) (frame : Frame) (s : State) : Answer :=
  gated .temperature .raw (sizeChecked .temperature len (respondInt (zext32 (rawCountTemperature frame)))) s

end Sys2Proof.Machine
end

