-- ==== Sys2Proof/Machine/Dispatch.lean ====
section
/-! DEFINITION. Machine/Dispatch.lean: one arm per operation of 30_encoding.md R65. -/

namespace Sys2Proof.Machine

def exec (i : Instr) (s : State) : Host.Outcome State Fault Refusal :=
  match i with
  | .rawH len frame => Sys2Proof.Machine.execRawH len frame s
  | .rawT len frame => Sys2Proof.Machine.execRawT len frame s
  | .scaleH len frame => Sys2Proof.Machine.execScaleH len frame s
  | .scaleT len frame => Sys2Proof.Machine.execScaleT len frame s
  | .offsetH len frame => Sys2Proof.Machine.execOffsetH len frame s
  | .offsetT len frame => Sys2Proof.Machine.execOffsetT len frame s
  | .rsvdH len frame => Sys2Proof.Machine.execRsvdH len frame s
  | .rsvdT len frame => Sys2Proof.Machine.execRsvdT len frame s

end Sys2Proof.Machine
end

