-- ==== Sys2Proof/Machine/Step.lean ====
section
/-! DEFINITION. Machine/Step.lean: one step takes the next request and answers it, atomically (30_encoding.md R76,
92_eei_decisions.md D1). -/

namespace Sys2Proof.Machine

/-- One step: the next request in the order presented is decoded and answered (10_state.md R22, 30_encoding.md R76);
with no request presented the block idles (log 2). -/
def step (s : State) : Host.Outcome State Fault Refusal :=
  match s.nextRequest with
  | some (w, s') => exec (decode w) s'
  | none => idle s

/-- The state in which the given request is the next that `step` takes: it stands at the head of the requests
presented, in place of the one that stood there. -/
def State.withFetchWord (s : State) (nbits w : Nat) : State :=
  { s with pending := BitVec.ofNat 38 (tableWord nbits w) :: s.pending.drop 1 }

end Sys2Proof.Machine
end

