-- ==== Sys2Proof/Machine/Assembler.lean ====
section
/-! DEFINITION. Machine/Assembler.lean: the spec's assembler forms and pseudo-instructions (30_encoding.md R64, R74,
R75, 92_eei_decisions.md D20), and how it writes a response. -/

namespace Sys2Proof.Machine

/-- The byte an encoder places at index `i`: don't-care and missing bytes are 0 (30_encoding.md R64, R74). -/
def asmByte (bytes : List (Option Byte)) (i : Nat) : Byte := (bytes[i]?.getD none).getD 0

/-- The frame of an assembler line. -/
def asmFrame (bytes : List (Option Byte)) : Frame :=
  ⟨asmByte bytes 0, asmByte bytes 1, asmByte bytes 2, asmByte bytes 3⟩

/-- The frame of a line without operands: all bytes 0 (30_encoding.md R74). -/
def zeroFrame : Frame := ⟨0, 0, 0, 0⟩

/-- The operation a line stands for; one without operands has `frame_len` 0 and zero bytes (30_encoding.md R74). -/
def assemble : AsmLine → Instr
  | .rawH len bytes => .rawH len (asmFrame bytes)
  | .rawT len bytes => .rawT len (asmFrame bytes)
  | .scaleH => .scaleH 0 zeroFrame
  | .scaleT => .scaleT 0 zeroFrame
  | .offsetH => .offsetH 0 zeroFrame
  | .offsetT => .offsetT 0 zeroFrame
  | .rsvdH => .rsvdH 0 zeroFrame
  | .rsvdT => .rsvdT 0 zeroFrame

/-- The requests a program line expands to (30_encoding.md R75). -/
def expand : AsmItem → List AsmLine
  | .request line => [line]
  | .readH len bytes => [.rawH len bytes, .scaleH]
  | .readT len bytes => [.rawT len bytes, .scaleT, .offsetT]

/-- The request words of a program, in order. -/
def assembleProgram (items : List AsmItem) : List RequestWord :=
  (items.flatMap expand).map fun line => encode (assemble line)

/-- How the spec writes a response (30_encoding.md R74). -/
def responseText : Response → String
  | .ok (.int v) => "OK INT " ++ toString v.toInt
  | .ok (.frac n d) => "OK FRAC " ++ toString n.toInt ++ "/" ++ toString d.toInt
  | .error .sizeMismatch => "ERR SIZE_MISMATCH"
  | .error .unsupportedInfoType => "ERR UNSUPPORTED_INFO_TYPE"

end Sys2Proof.Machine
end

