-- ==== Sys2Proof/Machine/Flags.lean ====
section
/-! DEFINITION. Machine/Flags.lean: the block has no flags and no condition codes (10_state.md R23), so no operation
computes one. What stands here is only the name of the two status bits that a frame carries and every operation
discards (40_decode_raw.md R83): statements use it, no meaning does. -/

namespace Sys2Proof.Machine

/-- The two status bits of a frame, `frame[0][7:6]` (40_decode_raw.md R83). Which of them means "busy" and which
"stale" is not in the source (91_not_in_source.md N6). -/
def statusBits (frame : Frame) : BitVec 2 := frame.b0.extractLsb' 6 2

/-- The frame with its status bits replaced and every data bit kept. -/
def withStatusBits (frame : Frame) (status : BitVec 2) : Frame :=
  { frame with b0 := status ++ frame.b0.extractLsb' 0 6 }

end Sys2Proof.Machine
end

