-- ==== Sys2Proof/Machine/Phys.lean ====
section
/-! DEFINITION. Machine/Phys.lean: the composition contract, the exact meaning of the block's outputs
(41_conversion.md R97 to R101). A specification function over ℚ: neither an operation nor an output of the block
(R100). -/

namespace Sys2Proof.Machine

/-- `PHYS(k, raw)` (41_conversion.md R97): multiply by the numerator, divide by the denominator, then add the offset. In
percent relative humidity or degrees Celsius (R101). -/
def phys (kind : ChannelKind) (raw : Nat) : ℚ :=
  (raw : ℚ) * ((rom kind).num : ℚ) / ((rom kind).den : ℚ) + ((rom kind).off : ℚ)

/-- What the requester computes from the responses of a full reading, in the order of 70_reset_and_hazards.md R139.
A channel without an exposed offset (humidity) takes the offset term 0 (41_conversion.md R94, R97). `none` where a
response is an error or of the other result type. -/
def composeReading (raw scale : Response) (offset : Option Response) : Option ℚ :=
  match raw, scale, offset with
  | .ok (.int v), .ok (.frac n d), none => some ((v.toInt : ℚ) * (n.toInt : ℚ) / (d.toInt : ℚ) + 0)
  | .ok (.int v), .ok (.frac n d), some (.ok (.int o)) =>
    some ((v.toInt : ℚ) * (n.toInt : ℚ) / (d.toInt : ℚ) + (o.toInt : ℚ))
  | _, _, _ => none

/-- A consumer's rounded value: `consume_round` is an argument under no law (41_conversion.md R98, D18). -/
def consumed {Out : Type} (consumeRound : ConsumeRound Out) (kind : ChannelKind) (raw : Nat) : Out :=
  consumeRound (phys kind raw)

end Sys2Proof.Machine
end

