-- ==== Sys2Proof/Machine/Respond.lean ====
section
/-! DEFINITION. Machine/Respond.lean: the dispatch of 30_encoding.md R76 and the operation rules written a SECOND time, on
the bits of the request word alone and with the literals of 10_state.md R24, R26 and the bit map of 40_decode_raw.md R85.
No decoder, table or meaning of the machine is used here, so that `step` agreeing with it says something. Log 17. -/

namespace Sys2Proof.Machine

/-- The response to a request word: a function of the request alone (10_state.md R20, 30_encoding.md R76). -/
def respond (w : RequestWord) : Response :=
  let info := w.extractLsb' 36 2
  let kind := w.extractLsb' 35 1
  let len := w.extractLsb' 32 3
  if (info = 2 ∧ kind = 0) ∨ info = 3 then .error .unsupportedInfoType
  else
    match info ++ kind with
    | 0b000 =>
      if len ≠ 2 then .error .sizeMismatch
      else .ok (.int ((w.extractLsb' 24 6 ++ w.extractLsb' 16 8).setWidth 32))
    | 0b001 =>
      if len ≠ 4 then .error .sizeMismatch
      else .ok (.int ((w.extractLsb' 8 8 ++ w.extractLsb' 2 6).setWidth 32))
    | 0b010 => .ok (.frac 0x00000064 0x00004000)
    | 0b011 => .ok (.frac 0x00000064 0x000026C9)
    | 0b101 => .ok (.int 0xFFFFFFD8)
    | _ => .error .unsupportedInfoType

end Sys2Proof.Machine
end

