-- ==== Sys2Proof/Machine/ResponsePort.lean ====
section
/-! DEFINITION. Machine/ResponsePort.lean: the fields of a response and the packed response word
(10_state.md R28, 30_encoding.md R68 to R71, 60_exceptions.md R110 to R113). -/

namespace Sys2Proof.Machine

/-- Field `err` (30_encoding.md R69, 60_exceptions.md R111 to R113). -/
def errCode : Response → BitVec 2
  | .ok _ => 0
  | .error .sizeMismatch => 1
  | .error .unsupportedInfoType => 2

/-- Field `rtype` of a result (30_encoding.md R70): 0 INT, 1 FRACTIONAL. -/
def rtypeCode : Result → BitVec 1
  | .int _ => 0
  | .frac _ _ => 1

/-- Field `val` of a result (10_state.md R28, 30_encoding.md R71). -/
def valField : Result → Word
  | .int v => v
  | .frac n _ => n

/-- Field `val2` of a result: 0 for INT (10_state.md R28, 30_encoding.md R71). -/
def val2Field : Result → Word
  | .int _ => 0
  | .frac _ d => d

/-- A read of a field that is meaningful only when `err` = 0; of an error response it is refused
(30_encoding.md R68, 92_eei_decisions.md D8). -/
def readField {α : Type} (field : Result → α) : Response → Host.Outcome α Fault Refusal
  | .ok r => .next (field r)
  | .error _ => .refused .errorHasNoValue

/-- The requester reads `rtype`. -/
def readRtype (r : Response) : Host.Outcome (BitVec 1) Fault Refusal := readField rtypeCode r

/-- The requester reads `val`. -/
def readVal (r : Response) : Host.Outcome Word Fault Refusal := readField valField r

/-- The requester reads `val2`. -/
def readVal2 (r : Response) : Host.Outcome Word Fault Refusal := readField val2Field r

/-- The packed response word (30_encoding.md R68). The bits of an error response that carry no value are those of
`noValue`, an argument under no law: at a port they may hold any value (92_eei_decisions.md D8). -/
def responseWord (noValue : ResponseWord) : Response → ResponseWord
  | .ok r => rtypeCode r ++ errCode (.ok r) ++ val2Field r ++ valField r
  | .error e => noValue.extractLsb' 66 1 ++ errCode (.error e) ++ noValue.extractLsb' 0 64

/-- The result that the value bits of an OK response word carry (30_encoding.md R68, R70). -/
def resultOfWord (w : ResponseWord) : Host.Outcome Result Fault Refusal :=
  if w.extractLsb' 66 1 = 1 then .next (.frac (w.extractLsb' 0 32) (w.extractLsb' 32 32))
  else if w.extractLsb' 32 32 = 0 then .next (.int (w.extractLsb' 0 32))
  else .refused .notAResponse

/-- A consumer reads a response word: `err` first, the value bits only when it is OK (30_encoding.md R68, R69); code 3
is no response of this block (60_exceptions.md R113). -/
def readResponseWord (w : ResponseWord) : Host.Outcome Response Fault Refusal :=
  match w.extractLsb' 64 2 with
  | 0 =>
    match resultOfWord w with
    | .next r => .next (.ok r)
    | .fault f => .fault f
    | .refused r => .refused r
  | 1 => .next (.error .sizeMismatch)
  | 2 => .next (.error .unsupportedInfoType)
  | 3 => .refused .errCodeThree

end Sys2Proof.Machine
end

