-- ==== Sys2Proof/Safety.lean ====
section
/-! DEFINITION. Safety.lean: the terms that claims about runs use. -/

namespace Sys2Proof.Machine

/-- The answers of the next `k` steps, in order: what a requester observes of a run (95_test_vectors.md section 3: the
observable end state of a program is the list of responses). A step that leaves the record without a value adds
nothing; the list ends where a step stops. -/
def transcript : Nat → State → List Response
  | 0, _ => []
  | k + 1, s =>
    match step s with
    | .next t => t.response.toList ++ transcript k t
    | .fault _ => []
    | .refused _ => []

/-- The responses the block can produce (30_encoding.md R71, 40_decode_raw.md R86, 10_state.md R24): an error, a raw
count of 14 bits, the temperature offset, or one of the two scale pairs. -/
def LegalResponse : Response → Prop
  | .error _ => True
  | .ok (.int v) => v.toNat ≤ 0x3FFF ∨ v.toInt = -40
  | .ok (.frac n d) => n.toNat = 100 ∧ (d.toNat = 16384 ∨ d.toNat = 9929)

/-- The invariant of the machine: the response record holds no value, or one that the block can produce. -/
def State.Inv (s : State) : Prop := ∀ r, s.response = some r → LegalResponse r

/-- The requester's duties for a RAW request, where `delivered` are the bytes that one bus transaction returned: the
frame bytes are that transaction's (70_reset_and_hazards.md R135) and `frame_len` is their number (R140). The block
cannot check either. -/
def FromTransaction (delivered : List Byte) (len : Nat) (frame : Frame) : Prop :=
  len = delivered.length ∧ ∀ i : Fin 4, ∀ b, delivered[i.val]? = some b → frameByte frame i = b

/-- A step is safe when the machine goes on. -/
def SafeStep (s : State) : Prop := ∃ t, step s = .next t

end Sys2Proof.Machine
end

