-- ==== Sys2Proof/Certificates/Slice0/Obligations.lean ====
section
/-! DEFINITION. Certificates/Slice0/Obligations.lean: the statements for the provers. Each cites the rule it formalises. -/

open Sys2Proof Sys2Proof.Machine

/-! Decoding and encoding. -/

/-- When a request is next in the order presented, a step is `exec` of the decoded operation on the state from which that
request is taken (30_encoding.md R76, 10_state.md R22). -/
def Obligations.StepRunsDecodedRequest : Prop :=
  ∀ (s : State) (w : RequestWord) (rest : List RequestWord), s.pending = w :: rest →
    step s = exec (decode w) { s with pending := rest }

/-- Words written out from the operation map decode to their operations (30_encoding.md R60, R65, 20_memory.md R46). -/
def Obligations.OperationWordsDecode : Prop :=
  decode 0x0212340000 = .rawH 2 ⟨0x12, 0x34, 0, 0⟩ ∧
  decode 0x0C00005004 = .rawT 4 ⟨0, 0, 0x50, 0x04⟩ ∧
  decode 0x17FFFFFFFF = .scaleH 7 ⟨0xFF, 0xFF, 0xFF, 0xFF⟩ ∧
  decode 0x1A12340000 = .scaleT 2 ⟨0x12, 0x34, 0, 0⟩ ∧
  decode 0x2212340000 = .offsetH 2 ⟨0x12, 0x34, 0, 0⟩ ∧
  decode 0x2C00005004 = .offsetT 4 ⟨0, 0, 0x50, 0x04⟩ ∧
  decode 0x3212340000 = .rsvdH 2 ⟨0x12, 0x34, 0, 0⟩ ∧
  decode 0x3C00005004 = .rsvdT 4 ⟨0, 0, 0x50, 0x04⟩

/-- Decode and encode agree on every well-formed operation, with every operand (30_encoding.md R60 to R65). -/
def Obligations.DecodeEncodeAgree : Prop :=
  ∀ i : Instr, i.WellFormed → decode (encode i) = i

/-- Every one of the 2^38 words decodes to a well-formed operation, and encoding that operation gives the word back: no bit
is dropped (30_encoding.md R64, R66). -/
def Obligations.EncodeDecodeAgree : Prop :=
  ∀ w : RequestWord, (decode w).WellFormed ∧ encode (decode w) = w

/-- 30_encoding.md R65: each row's mask and match select exactly that row's operation, and bits [34:0] take no part. -/
def Obligations.OperationMapSelects : Prop :=
  opTable =
    [ ⟨.raw, .humidity, 0x3800000000, 0x0000000000⟩, ⟨.raw, .temperature, 0x3800000000, 0x0800000000⟩,
      ⟨.scale, .humidity, 0x3800000000, 0x1000000000⟩, ⟨.scale, .temperature, 0x3800000000, 0x1800000000⟩,
      ⟨.offset, .humidity, 0x3800000000, 0x2000000000⟩, ⟨.offset, .temperature, 0x3800000000, 0x2800000000⟩,
      ⟨.reserved, .humidity, 0x3800000000, 0x3000000000⟩, ⟨.reserved, .temperature, 0x3800000000, 0x3800000000⟩ ] ∧
  (∀ (w : RequestWord) (row : OpRow), row ∈ opTable →
    (w &&& row.mask = row.bits ↔ (decode w).info = row.info ∧ (decode w).kind = row.kind)) ∧
  (∀ w w' : RequestWord, w.extractLsb' 35 3 = w'.extractLsb' 35 3 →
    (decode w).info = (decode w').info ∧ (decode w).kind = (decode w').kind)

/-- Every request word matches exactly one row of the operation map (30_encoding.md R66, R65). -/
def Obligations.EveryWordMatchesOneRow : Prop :=
  ∀ w : RequestWord, ∃! row : OpRow, row ∈ opTable ∧ w &&& row.mask = row.bits

/-- A word the table's decoder accepts is run by the very next step from the state that holds it; the interface is the
model's (log 1, log 13), cites 30_encoding.md. -/
def Obligations.PlacedWordRunsNext : Prop :=
  ∀ (s : State) (nbits w : Nat) (i : Instr), decodeTableWord nbits w = some i →
    step (s.withFetchWord nbits w) = exec i { s with pending := s.pending.drop 1 }

/-! The two RAW operations. -/

/-- 40_decode_raw.md R81: RAW.H on every word with its match and mask, its corner cases and its worked example. -/
def Obligations.RawHumidityWords : Prop :=
  (∀ (s : State) (w : RequestWord) (rest : List RequestWord), s.pending = w :: rest →
    w &&& 0x3800000000 = 0x0000000000 →
    let f0 := (w.extractLsb' 24 8).toNat
    let f1 := (w.extractLsb' 16 8).toNat
    let raw := (f0 &&& 0x3F) <<< 8 ||| f1
    raw ≤ 0x3FFF ∧ raw = (f0 &&& 0x3F) <<< 8 + f1 ∧
    step s = .next
      { pending := rest,
        response := some (if w.extractLsb' 32 3 = 2 then .ok (.int (BitVec.ofNat 32 raw))
          else .error .sizeMismatch) }) ∧
  (∀ (s : State) (b2 b3 : Byte),
    exec (.rawH 2 ⟨0xC0, 0x00, b2, b3⟩) s = .next { s with response := some (.ok (.int 0)) } ∧
    exec (.rawH 2 ⟨0xFF, 0xFF, b2, b3⟩) s = .next { s with response := some (.ok (.int 16383)) } ∧
    exec (.rawH 2 ⟨0x12, 0x34, b2, b3⟩) s = .next { s with response := some (.ok (.int 4660)) })

/-- 40_decode_raw.md R82: RAW.T on every word with its match and mask, its corner cases and its worked example. -/
def Obligations.RawTemperatureWords : Prop :=
  (∀ (s : State) (w : RequestWord) (rest : List RequestWord), s.pending = w :: rest →
    w &&& 0x3800000000 = 0x0800000000 →
    let f2 := (w.extractLsb' 8 8).toNat
    let f3 := (w.extractLsb' 0 8).toNat
    let raw := f2 <<< 6 + f3 / 4
    raw ≤ 0x3FFF ∧ raw = f2 <<< 6 ||| f3 / 4 ∧
    step s = .next
      { pending := rest,
        response := some (if w.extractLsb' 32 3 = 4 then .ok (.int (BitVec.ofNat 32 raw))
          else .error .sizeMismatch) }) ∧
  (∀ (s : State) (b0 b1 : Byte),
    exec (.rawT 4 ⟨b0, b1, 0x00, 0x03⟩) s = .next { s with response := some (.ok (.int 0)) } ∧
    exec (.rawT 4 ⟨b0, b1, 0x50, 0x07⟩) s = .next { s with response := some (.ok (.int 5121)) } ∧
    exec (.rawT 4 ⟨b0, b1, 0xFF, 0xFF⟩) s = .next { s with response := some (.ok (.int 16383)) } ∧
    exec (.rawT 4 ⟨b0, b1, 0x50, 0x04⟩) s = .next { s with response := some (.ok (.int 5121)) })

/-- RAW.H and RAW.T complete on a frame of their kind's length, in every state (40_decode_raw.md R81, R82). -/
def Obligations.RawOperationsComplete : Prop :=
  ∀ (s : State) (f : Frame),
    exec (.rawH 2 f) s = .next { s with
      response := some (.ok (.int (BitVec.ofNat 32 ((f.b0.toNat &&& 0x3F) <<< 8 ||| f.b1.toNat)))) } ∧
    exec (.rawT 4 f) s = .next { s with
      response := some (.ok (.int (BitVec.ofNat 32 (f.b2.toNat <<< 6 + f.b3.toNat / 4)))) }

/-- 40_decode_raw.md R80: a RAW operation answers SizeMismatch exactly when the length is not its kind's, whatever the
frame bytes are. -/
def Obligations.RawSizeCheck : Prop :=
  ∀ (s : State) (len : Nat) (f : Frame),
    (exec (.rawH len f) s = .next { s with response := some (.error .sizeMismatch) } ↔ len ≠ 2) ∧
    (exec (.rawT len f) s = .next { s with response := some (.error .sizeMismatch) } ↔ len ≠ 4)

/-- 40_decode_raw.md R83: replacing the two status bits of `frame[0]` changes no operation's effect. -/
def Obligations.StatusBitsNeverData : Prop :=
  ∀ (info : InfoType) (kind : ChannelKind) (len : Nat) (f : Frame) (status : BitVec 2) (s : State),
    statusBits (withStatusBits f status) = status ∧
    exec (select info kind len (withStatusBits f status)) s = exec (select info kind len f) s

/-- 40_decode_raw.md R84: the low byte contributes its top six bits, truncated; the discarded bits never matter. -/
def Obligations.TemperatureTruncates : Prop :=
  (∀ b : Byte, b.toNat / 4 = (b >>> 2).toNat ∧ b.toNat / 4 = (b.extractLsb' 2 6).toNat) ∧
  (∀ (f : Frame) (s : State),
    exec (.rawT 4 f) s = .next { s with
      response := some (.ok (.int (BitVec.ofNat 32 (f.b2.toNat <<< 6 + (f.b3.extractLsb' 2 6).toNat)))) }) ∧
  (∀ (f : Frame) (low : BitVec 2) (len : Nat) (s : State),
    exec (.rawT len { f with b3 := f.b3.extractLsb' 2 6 ++ low }) s = exec (.rawT len f) s)

/-- The bit map of the two raw counts, which 40_decode_raw.md R85 gives and marks as its own derivation. -/
def Obligations.RawBitMap : Prop :=
  ∀ (f : Frame) (s : State), ∃ rawH rawT : BitVec 14,
    exec (.rawH 2 f) s = .next { s with response := some (.ok (.int (rawH.setWidth 32))) } ∧
    exec (.rawT 4 f) s = .next { s with response := some (.ok (.int (rawT.setWidth 32))) } ∧
    rawH = f.b0.extractLsb' 0 6 ++ f.b1 ∧ rawT = f.b2 ++ f.b3.extractLsb' 2 6 ∧
    (∀ i : Nat, i < 8 → rawH.getLsbD i = f.b1.getLsbD i) ∧
    (∀ i : Nat, i < 6 → rawH.getLsbD (i + 8) = f.b0.getLsbD i) ∧
    (∀ i : Nat, i < 6 → rawT.getLsbD i = f.b3.getLsbD (i + 2)) ∧
    (∀ i : Nat, i < 8 → rawT.getLsbD (i + 6) = f.b2.getLsbD i)

/-- Every successful RAW result fits 14 bits unsigned (so 16384 is none), and every value of 14 bits is the result of some
frame; 40_decode_raw.md R86 marks the second half as its own derivation. -/
def Obligations.RawCountsAreTheFourteenBitNumbers : Prop :=
  (∀ (kind : ChannelKind) (len : Nat) (f : Frame) (s t : State) (r : Result),
    exec (select .raw kind len f) s = .next t → t.response = some (.ok r) →
    ∃ v, r = .int v ∧ v.toNat ≤ 0x3FFF) ∧
  (∀ (n : Nat) (s : State), n ≤ 0x3FFF →
    (∃ f, exec (.rawH 2 f) s = .next { s with response := some (.ok (.int (BitVec.ofNat 32 n))) }) ∧
    (∃ f, exec (.rawT 4 f) s = .next { s with response := some (.ok (.int (BitVec.ofNat 32 n))) }))

/-- A RAW operation depends on no byte outside its two source bytes: 40_decode_raw.md R87, which the spec marks as its own
derivation. -/
def Obligations.RawIgnoresOtherBytes : Prop :=
  ∀ (s : State) (len : Nat) (b0 b1 b2 b3 c0 c1 c2 c3 : Byte),
    exec (.rawH len ⟨b0, b1, b2, b3⟩) s = exec (.rawH len ⟨b0, b1, c2, c3⟩) s ∧
    exec (.rawT len ⟨b0, b1, b2, b3⟩) s = exec (.rawT len ⟨c0, c1, b2, b3⟩) s

/-- Bytes at an index at or above `frame_len` never affect a response (30_encoding.md R64, 93 U9). -/
def Obligations.BytesOutsideFrameIgnored : Prop :=
  ∀ (info : InfoType) (kind : ChannelKind) (len : Nat) (f g : Frame) (s : State),
    (∀ i : Fin 4, i.val < len → frameByte f i = frameByte g i) →
    exec (select info kind len f) s = exec (select info kind len g) s

/-! SCALE, OFFSET and the reserved info type. -/

/-- 41_conversion.md R90: SCALE.H on every word with its match and mask, and the meaning of its example. -/
def Obligations.ScaleHumidityWords : Prop :=
  (∀ (s : State) (w : RequestWord) (rest : List RequestWord), s.pending = w :: rest →
    w &&& 0x3800000000 = 0x1000000000 →
    step s = .next { pending := rest, response := some (.ok (.frac 0x00000064 0x00004000)) }) ∧
  ((0x00000064 : Word).toInt = 100 ∧ (0x00004000 : Word).toInt = 16384) ∧
  phys .humidity 4660 = 29125 / 1024

/-- SCALE.T on every word with its match and mask (41_conversion.md R91); the pair is in lowest terms, as 9929 is prime,
which the spec marks as its own derivation. -/
def Obligations.ScaleTemperatureWords : Prop :=
  (∀ (s : State) (w : RequestWord) (rest : List RequestWord), s.pending = w :: rest →
    w &&& 0x3800000000 = 0x1800000000 →
    step s = .next { pending := rest, response := some (.ok (.frac 0x00000064 0x000026C9)) }) ∧
  ((0x00000064 : Word).toInt = 100 ∧ (0x000026C9 : Word).toInt = 9929) ∧
  Nat.Prime 9929 ∧ Nat.Coprime 100 9929 ∧
  phys .temperature 5121 - ((rom .temperature).off : ℚ) = 512100 / 9929

/-- 41_conversion.md R93: OFFSET.T on every word with its match and mask, and that the offset is added after scaling. -/
def Obligations.OffsetTemperatureWords : Prop :=
  (∀ (s : State) (w : RequestWord) (rest : List RequestWord), s.pending = w :: rest →
    w &&& 0x3800000000 = 0x2800000000 →
    step s = .next { pending := rest, response := some (.ok (.int 0xFFFFFFD8)) }) ∧
  (0xFFFFFFD8 : Word).toInt = -40 ∧
  (∀ raw : Nat, phys .temperature raw = (raw : ℚ) * 100 / 9929 + ((0xFFFFFFD8 : Word).toInt : ℚ))

/-- 41_conversion.md R94: OFFSET.H on every word with its match and mask, and the ROM's 0 that the composition uses. -/
def Obligations.OffsetHumidityWords : Prop :=
  (∀ (s : State) (w : RequestWord) (rest : List RequestWord), s.pending = w :: rest →
    w &&& 0x3800000000 = 0x2000000000 →
    step s = .next { pending := rest, response := some (.error .unsupportedInfoType) }) ∧
  (rom .humidity).off = 0 ∧
  (∀ raw : Nat, phys .humidity raw = (raw : ℚ) * 100 / 16384 + ((rom .humidity).off : ℚ))

/-- 41_conversion.md R95: RSVD.H and RSVD.T on every word with their match and mask. -/
def Obligations.ReservedWords : Prop :=
  ∀ (s : State) (w : RequestWord) (rest : List RequestWord), s.pending = w :: rest →
    (w &&& 0x3800000000 = 0x3000000000 ∨ w &&& 0x3800000000 = 0x3800000000) →
    step s = .next { pending := rest, response := some (.error .unsupportedInfoType) }

/-- The six operations without operands complete with their one effect, for every `frame_len` and every frame, in every
state (41_conversion.md R90 to R95). -/
def Obligations.ConversionOperationsComplete : Prop :=
  ∀ (s : State) (len : Nat) (f : Frame),
    exec (.scaleH len f) s = .next { s with response := some (.ok (.frac 100 16384)) } ∧
    exec (.scaleT len f) s = .next { s with response := some (.ok (.frac 100 9929)) } ∧
    exec (.offsetT len f) s = .next { s with response := some (.ok (.int (-40))) } ∧
    exec (.offsetH len f) s = .next { s with response := some (.error .unsupportedInfoType) } ∧
    exec (.rsvdH len f) s = .next { s with response := some (.error .unsupportedInfoType) } ∧
    exec (.rsvdT len f) s = .next { s with response := some (.error .unsupportedInfoType) }

/-- UnsupportedInfoType is answered exactly where the descriptor table says not legal, which is OFFSET.H, RSVD.H and
RSVD.T, whatever the length and the bytes: 41_conversion.md R96, part of which the spec marks as its own derivation. -/
def Obligations.GateAnswersUnsupported : Prop :=
  ∀ (info : InfoType) (kind : ChannelKind) (len : Nat) (f : Frame) (s : State),
    (exec (select info kind len f) s = .next { s with response := some (.error .unsupportedInfoType) } ↔
      legal kind info = false) ∧
    (legal kind info = false ↔ (info = .offset ∧ kind = .humidity) ∨ info = .reserved)

/-! Errors, state and order. -/

/-- UnsupportedInfoType only for operations other than RAW, SizeMismatch only for RAW: 60_exceptions.md R116, which the
spec marks as its own derivation. -/
def Obligations.AtMostOneErrorApplies : Prop :=
  ∀ (i : Instr) (s t : State), exec i s = .next t →
    (t.response = some (.error .unsupportedInfoType) → i.info ≠ .raw) ∧
    (t.response = some (.error .sizeMismatch) → i.info = .raw)

/-- The frame of all eight operations: the requests still pending are unchanged, nothing else exists to change, and the
response record holds an answer (10_state.md R20, 20_memory.md R51). -/
def Obligations.OperationFrame : Prop :=
  ∀ (i : Instr) (s t : State), exec i s = .next t →
    t.pending = s.pending ∧ ∃ r, t.response = some r

/-- The frame of a step: it takes the first request presented and no other, and answers it (10_state.md R22,
60_exceptions.md R110). -/
def Obligations.StepFrame : Prop :=
  ∀ (s : State), s.pending ≠ [] →
    ∃ r, step s = .next { pending := s.pending.tail, response := some r }

/-- A step always goes on: every request is answered (30_encoding.md R67); that a step without a request goes on too is the
model's choice (log 2). -/
def Obligations.StepAlwaysGoesOn : Prop :=
  ∀ s : State, SafeStep s

/-- The model's choice for a step without a request (log 2): the response record then holds no value (10_state.md R29). -/
def Obligations.IdleStepHoldsNoResponse : Prop :=
  ∀ s : State, s.pending = [] → step s = .next { pending := [], response := none }

/-- A step is the dispatch `Respond` of 30_encoding.md R76, written a second time on the bits of the word (log 17). -/
def Obligations.StepRefinesRespond : Prop :=
  ∀ (s : State) (w : RequestWord) (rest : List RequestWord), s.pending = w :: rest →
    step s = .next { pending := rest, response := some (respond w) }

/-- 10_state.md R20: the answer to a request is the same whatever requests, answers and errors came before it. -/
def Obligations.ResponseIgnoresHistory : Prop :=
  ∀ (earlier : List RequestWord) (w : RequestWord) (before : Option Response),
    (transcript (earlier.length + 1) { pending := earlier ++ [w], response := before }).getLast? =
    (transcript 1 { pending := [w], response := none }).head? ∧
    (transcript 1 { pending := [w], response := none }).head?.isSome

/-- Requests are answered in the order presented, one response each, each before the next is taken (10_state.md R22). The
queue that holds that order is the model's own field (log 1). -/
def Obligations.RequestsAnsweredInOrder : Prop :=
  ∀ (ws rest : List RequestWord) (before : Option Response),
    transcript ws.length { pending := ws ++ rest, response := before } = ws.map respond ∧
    Host.Core.run Sys2Proof.core ws.length ({ pending := ws ++ rest, response := before } : State) =
      .next ({ pending := rest, response := ((ws.map respond).getLast?).or before } : State)

/-- In any order of the requests each request gets the response it would get alone: 20_memory.md R54, which the spec marks
as its own derivation. -/
def Obligations.OrderChangesNoResponse : Prop :=
  ∀ (ws ws' : List RequestWord) (before before' : Option Response), ws.Perm ws' →
    (ws.zip (transcript ws.length { pending := ws, response := before })).Perm
      (ws'.zip (transcript ws'.length { pending := ws', response := before' })) ∧
    ∀ w r, (w, r) ∈ ws.zip (transcript ws.length { pending := ws, response := before }) →
      transcript 1 { pending := [w], response := none } = [r]

/-- Presenting the same request twice gives the same response twice (20_memory.md R51). -/
def Obligations.RequestsAreIdempotent : Prop :=
  ∀ (w : RequestWord) (before : Option Response),
    ∃ r, transcript 2 { pending := [w, w], response := before } = [r, r]

/-- The invariant that the response record holds nothing the block cannot produce, kept by every step
(30_encoding.md R71, 40_decode_raw.md R86). -/
def Obligations.StepKeepsLegalResponse : Prop :=
  ∀ s t : State, s.Inv → step s = .next t → t.Inv

/-- The invariant holds after reset (10_state.md R34). -/
def Obligations.ResetHoldsInvariant : Prop := State.reset.Inv

/-- Reset: the response record holds no value and reading it is a fault; the constant tables hold their values
(10_state.md R24, R26, R34). That no request is pending is the model's choice (log 1). -/
def Obligations.ResetState : Prop :=
  State.reset = { pending := [], response := none } ∧
  State.reset.readResponse = .fault .noResponse ∧
  rom .humidity = { num := 100, den := 16384, off := 0, len := 2 } ∧
  rom .temperature = { num := 100, den := 9929, off := -40, len := 4 } ∧
  (∀ kind info, legal kind info = true ↔
    info = .raw ∨ info = .scale ∨ (info = .offset ∧ kind = .temperature))

/-- After a reinitialisation the block behaves exactly as before (70_reset_and_hazards.md R130); that the requests already
presented stay is the model's choice (log 9). -/
def Obligations.ReinitialiseChangesNoAnswer : Prop :=
  ∀ (s : State) (k : Nat), s.reinitialise.response = none ∧
    transcript k s.reinitialise = transcript k s

/-- Reading the response record is a fault exactly while it holds no value, and gives its value else (10_state.md R29). -/
def Obligations.ReadingResponse : Prop :=
  ∀ s : State,
    (s.response = none ↔ s.readResponse = .fault .noResponse) ∧
    (∀ r, s.response = some r ↔ s.readResponse = .next r)

/-! The response record and its word. -/

/-- What `val` and `val2` hold for each kind of result, and that no value is out of range (30_encoding.md R71, whose last
sentence the spec marks as its own derivation). -/
def Obligations.ResponseValues : Prop :=
  ∀ (i : Instr) (s t : State) (r : Result), exec i s = .next t → t.response = some (.ok r) →
    (-40 ≤ (valField r).toInt ∧ (valField r).toInt ≤ 16384) ∧
    (-40 ≤ (val2Field r).toInt ∧ (val2Field r).toInt ≤ 16384) ∧
    (i.info = .raw →
      r = .int (valField r) ∧ val2Field r = 0 ∧ (valField r).extractLsb' 14 18 = 0 ∧
      valField r = BitVec.ofNat 32
        (if i.kind = .humidity then rawCountHumidity i.frame else rawCountTemperature i.frame)) ∧
    (i.info = .offset → r = .int 0xFFFFFFD8 ∧ (valField r).toInt = -40 ∧ val2Field r = 0) ∧
    (i.info = .scale → valField r = 0x00000064 ∧
      val2Field r = if i.kind = .humidity then 0x00004000 else 0x000026C9)

/-- `err` of a response, and that `rtype`, `val` and `val2` of an error carry no value while those of a result read
(10_state.md R28, 30_encoding.md R68 to R70, 92_eei_decisions.md D8). -/
def Obligations.ErrorCarriesNoValue : Prop :=
  (∀ e : DecodeError, readRtype (.error e) = .refused .errorHasNoValue ∧
    readVal (.error e) = .refused .errorHasNoValue ∧ readVal2 (.error e) = .refused .errorHasNoValue) ∧
  (∀ v : Word, readRtype (.ok (.int v)) = .next 0 ∧ readVal (.ok (.int v)) = .next v ∧
    readVal2 (.ok (.int v)) = .next 0) ∧
  (∀ n d : Word, readRtype (.ok (.frac n d)) = .next 1 ∧ readVal (.ok (.frac n d)) = .next n ∧
    readVal2 (.ok (.frac n d)) = .next d) ∧
  errCode (.error .sizeMismatch) = 1 ∧ errCode (.error .unsupportedInfoType) = 2

/-- The bits of the packed response word (30_encoding.md R68). Of an error only `err` is fixed: every word with that code is
a word of that error, for some value of the bits that carry none. -/
def Obligations.ResponseWordFields : Prop :=
  (∀ (noValue : ResponseWord) (r : Result),
    (responseWord noValue (.ok r)).extractLsb' 66 1 = rtypeCode r ∧
    (responseWord noValue (.ok r)).extractLsb' 64 2 = 0 ∧
    (responseWord noValue (.ok r)).extractLsb' 32 32 = val2Field r ∧
    (responseWord noValue (.ok r)).extractLsb' 0 32 = valField r) ∧
  (∀ (e : DecodeError) (w : ResponseWord),
    (∃ noValue, responseWord noValue (.error e) = w) ↔ w.extractLsb' 64 2 = errCode (.error e))

/-- A consumer reads back from the response word the response that was given, whatever the bits without a value hold
(30_encoding.md R68 to R71). -/
def Obligations.ResponseWordReadsBack : Prop :=
  ∀ (noValue : ResponseWord) (r : Response), readResponseWord (responseWord noValue r) = .next r

/-- 60_exceptions.md R113: `err` is 0 exactly for a response that is no error, code 3 is never produced, and a consumer
that sees it has seen no response of the block. -/
def Obligations.ErrCodeThreeNeverProduced : Prop :=
  (∀ (noValue : ResponseWord) (r : Response),
    (responseWord noValue r).extractLsb' 64 2 ≠ 3 ∧
    ((responseWord noValue r).extractLsb' 64 2 = 0 ↔ ∃ res, r = .ok res)) ∧
  (∀ w : ResponseWord, w.extractLsb' 64 2 = 3 ↔ readResponseWord w = .refused .errCodeThree)

/-! The composition contract. -/

/-- 41_conversion.md R97: the exact rational meant by a raw count, its order of operations, and that adding the offset to
the raw count is never the same. -/
def Obligations.PhysicalValueFormula : Prop :=
  (∀ (kind : ChannelKind) (raw : Nat),
    phys kind raw = (raw : ℚ) * (rom kind).num / (rom kind).den + (rom kind).off) ∧
  (∀ raw : Nat, phys .humidity raw = (raw : ℚ) * 100 / 16384) ∧
  (∀ raw : Nat, phys .temperature raw = (raw : ℚ) * 100 / 9929 - 40) ∧
  (∀ raw : Nat, phys .temperature raw ≠ ((raw : ℚ) - 40) * 100 / 9929) ∧
  (rom .humidity).off = 0

/-- Ranges, resolution and order of the physical values: 41_conversion.md R99, which the spec marks as its own
derivation. -/
def Obligations.PhysicalValueRanges : Prop :=
  (phys .humidity 0 = 0 ∧ phys .humidity 16383 = 409575 / 4096 ∧
    ∀ raw, phys .humidity (raw + 1) - phys .humidity raw = 25 / 4096) ∧
  (phys .temperature 0 = -40 ∧ phys .temperature 16383 = 1241140 / 9929 ∧
    ∀ raw, phys .temperature (raw + 1) - phys .temperature raw = 100 / 9929) ∧
  (∀ kind, StrictMono (phys kind)) ∧
  (∀ raw, raw ≤ 16383 → phys .humidity raw < 100) ∧
  (∀ raw, phys .humidity raw = 100 ↔ raw = 16384) ∧
  (125 : ℚ) < phys .temperature 16383 ∧
  phys .temperature 3971 = -60 / 9929 ∧ phys .temperature 3972 = 40 / 9929 ∧
  (∀ raw, phys .temperature raw < 0 ↔ raw ≤ 3971)

/-- The pseudo-instruction READ.H on a frame of two bytes: its two requests are answered with the raw count and the pair,
and what the requester composes of them is the physical value (30_encoding.md R75, 41_conversion.md R97). `tail` is any
further operand bytes; that those past the fourth are not encoded is the model's choice (log 16). -/
def Obligations.ReadHumidityGivesPhysicalValue : Prop :=
  ∀ (b0 b1 : Byte) (tail : List (Option Byte)) (rest : List RequestWord) (before : Option Response),
    ∃ raw scale : Response,
      transcript 2 { pending := assembleProgram [.readH 2 (some b0 :: some b1 :: tail)] ++ rest,
                     response := before } = [raw, scale] ∧
      composeReading raw scale none = some (phys .humidity ((b0.extractLsb' 0 6 ++ b1).toNat))

/-- The pseudo-instruction READ.T on a frame of four bytes: its three requests are answered with the raw count, the pair and
the offset, and what the requester composes of them is the physical value (30_encoding.md R75, 41_conversion.md R97). -/
def Obligations.ReadTemperatureGivesPhysicalValue : Prop :=
  ∀ (b0 b1 : Option Byte) (b2 b3 : Byte) (rest : List RequestWord) (before : Option Response),
    ∃ raw scale offset : Response,
      transcript 3 { pending := assembleProgram [.readT 4 [b0, b1, some b2, some b3]] ++ rest,
                     response := before } = [raw, scale, offset] ∧
      composeReading raw scale (some offset) =
        some (phys .temperature ((b2 ++ b3.extractLsb' 2 6).toNat))

/-- A frame presented with its true length after a short (or long) read is answered with SizeMismatch
(70_reset_and_hazards.md R136, R140). -/
def Obligations.ShortReadRejected : Prop :=
  ∀ (kind : ChannelKind) (delivered : List Byte) (len : Nat) (f : Frame) (s : State),
    FromTransaction delivered len f → delivered.length ≠ (rom kind).len →
    exec (select .raw kind len f) s = .next { s with response := some (.error .sizeMismatch) }

/-- Every well-formed line assembles to a well-formed operation, and one without operands to zeros below bit 35
(30_encoding.md R74). -/
def Obligations.AssembledLinesEncodable : Prop :=
  ∀ line : AsmLine, line.wellFormed = true →
    decode (encode (assemble line)) = assemble line ∧
    ((∀ len bytes, line ≠ .rawH len bytes ∧ line ≠ .rawT len bytes) →
      (encode (assemble line)).extractLsb' 0 35 = 0)
end

