-- ==== Sys2Proof/Laws/Decode.lean ====
section
/-! SUPPORT. Laws/Decode.lean: the codes of the request's fields, and what `select` selects. -/

namespace Sys2Proof

theorem InfoType.ofCode_code (info : InfoType) : InfoType.ofCode info.code = info := by
  cases info <;> rfl

theorem InfoType.code_ofCode : ∀ c : BitVec 2, (InfoType.ofCode c).code = c := by decide

theorem ChannelKind.ofCode_code (kind : ChannelKind) : ChannelKind.ofCode kind.code = kind := by
  cases kind <;> rfl

theorem ChannelKind.code_ofCode : ∀ c : BitVec 1, (ChannelKind.ofCode c).code = c := by decide

variable (info : InfoType) (kind : ChannelKind) (len : Nat) (frame : Frame)

@[simp] theorem select_info : (select info kind len frame).info = info := by
  cases info <;> cases kind <;> rfl

@[simp] theorem select_kind : (select info kind len frame).kind = kind := by
  cases info <;> cases kind <;> rfl

@[simp] theorem select_frameLen : (select info kind len frame).frameLen = len := by
  cases info <;> cases kind <;> rfl

@[simp] theorem select_frame : (select info kind len frame).frame = frame := by
  cases info <;> cases kind <;> rfl

/-- An operation is what its own fields select. -/
theorem select_self (i : Instr) : select i.info i.kind i.frameLen i.frame = i := by
  cases i <;> rfl

end Sys2Proof
end

