-- ==== Sys2Proof/Laws/Operands.lean ====
section
/-! SUPPORT. Laws/Operands.lean: the extensions to 32 bits lose nothing of a value that fits (30_encoding.md R71). -/

namespace Sys2Proof.Machine

theorem zext32_toNat {n : Nat} (h : n < 2 ^ 32) : (zext32 n).toNat = n := by
  rw [zext32, BitVec.toNat_ofNat, Nat.mod_eq_of_lt h]

theorem zext32_toInt {n : Nat} (h : n < 2 ^ 31) : (zext32 n).toInt = n := by
  have e : (zext32 n).toNat = n := zext32_toNat (by omega)
  rw [BitVec.toInt_eq_toNat_of_lt (by omega), e]

theorem sext32_toInt {z : Int} (hlo : -2 ^ 31 ≤ z) (hhi : z < 2 ^ 31) : (sext32 z).toInt = z := by
  rw [sext32, BitVec.toInt_ofInt]
  exact Int.bmod_eq_of_le (by omega) (by omega)

end Sys2Proof.Machine
end

