-- ==== Sys2Proof/Laws/State.lean ====
section
/-! SUPPORT. Laws/State.lean: each update of the state, field by field. -/

namespace Sys2Proof.Machine

@[simp] theorem State.reset_pending : State.reset.pending = [] := rfl
@[simp] theorem State.reset_response : State.reset.response = none := rfl

@[simp] theorem State.answer_pending (s : State) (r : Response) : (s.answer r).pending = s.pending := rfl
@[simp] theorem State.answer_response (s : State) (r : Response) : (s.answer r).response = some r := rfl

@[simp] theorem State.present_pending (s : State) (w : RequestWord) :
    (s.present w).pending = s.pending ++ [w] := rfl
@[simp] theorem State.present_response (s : State) (w : RequestWord) :
    (s.present w).response = s.response := rfl

@[simp] theorem State.reinitialise_pending (s : State) : s.reinitialise.pending = s.pending := rfl
@[simp] theorem State.reinitialise_response (s : State) : s.reinitialise.response = none := rfl

@[simp] theorem State.withFetchWord_pending (s : State) (nbits w : Nat) :
    (s.withFetchWord nbits w).pending = BitVec.ofNat 38 (tableWord nbits w) :: s.pending.drop 1 := rfl
@[simp] theorem State.withFetchWord_response (s : State) (nbits w : Nat) :
    (s.withFetchWord nbits w).response = s.response := rfl

end Sys2Proof.Machine
end

