-- ==== Sys2Proof/Laws/Ops.lean ====
section
/-! SUPPORT. Laws/Ops.lean: for each shared operation, once, everything it can do. -/

namespace Sys2Proof.Machine

theorem nextRequest_eq_some {s s' : State} {w : RequestWord} (h : s.nextRequest = some (w, s')) :
    s.pending = w :: s'.pending ∧ s'.response = s.response := by
  unfold State.nextRequest at h
  split at h
  · cases h
  · rename_i heq
    cases h
    exact ⟨heq, rfl⟩

theorem nextRequest_eq_none {s : State} (h : s.nextRequest = none) : s.pending = [] := by
  unfold State.nextRequest at h
  split at h
  · assumption
  · cases h

theorem nextRequest_of_pending {s : State} {w : RequestWord} {rest : List RequestWord}
    (h : s.pending = w :: rest) : s.nextRequest = some (w, { s with pending := rest }) := by
  unfold State.nextRequest
  rw [h]

theorem idle_next {s t : State} (h : idle s = .next t) : t = { s with response := none } := by
  cases h; rfl

theorem respondInt_next {v : Word} {s t : State} (h : respondInt v s = .next t) :
    t = s.answer (.ok (.int v)) := by
  cases h; rfl

theorem respondFrac_next {n d : Word} {s t : State} (h : respondFrac n d s = .next t) :
    t = s.answer (.ok (.frac n d)) := by
  cases h; rfl

theorem raiseError_next {e : DecodeError} {s t : State} (h : raiseError e s = .next t) :
    t = s.answer (.error e) := by
  cases h; rfl

/-- The gate runs the operation of a legal pair and answers UnsupportedInfoType otherwise. -/
theorem gated_eq {kind : ChannelKind} {info : InfoType} {op : State → Answer} {s : State} :
    (legal kind info = true ∧ gated kind info op s = op s) ∨
    (legal kind info = false ∧ gated kind info op s = raiseError .unsupportedInfoType s) := by
  unfold gated
  cases h : legal kind info
  · exact .inr ⟨rfl, rfl⟩
  · exact .inl ⟨rfl, rfl⟩

theorem sizeChecked_of_eq {kind : ChannelKind} {len : Nat} {op : State → Answer} {s : State}
    (h : len = (rom kind).len) : sizeChecked kind len op s = op s := if_pos h

theorem sizeChecked_of_ne {kind : ChannelKind} {len : Nat} {op : State → Answer} {s : State}
    (h : len ≠ (rom kind).len) : sizeChecked kind len op s = raiseError .sizeMismatch s := if_neg h

theorem readResponse_next {s : State} {r : Response} (h : s.readResponse = .next r) : s.response = some r := by
  unfold State.readResponse at h
  split at h
  · rename_i heq
    cases h
    exact heq
  · cases h

end Sys2Proof.Machine
end

