-- ==== Sys2Proof/Laws/PerInstr.lean ====
section
/-! SUPPORT. Laws/PerInstr.lean: statements made for every constructor of Instr. -/

namespace Sys2Proof.Laws

/-- The selection bits of an operation's word are its info and kind codes (30_encoding.md R60, R65). -/
def SelectionBits.Statement (i : Instr) : Prop :=
  (encode i).extractLsb' 35 3 = i.info.code ++ i.kind.code

/-- The top three bits of the packed request word. -/
theorem request_word_selection (r : Request) : r.word.extractLsb' 35 3 = r.info.code ++ r.kind.code := by
  apply BitVec.eq_of_getLsbD_eq
  intro j hj
  rw [BitVec.getLsbD_extractLsb', BitVec.getLsbD_append, Request.word]
  simp only [BitVec.getLsbD_append]
  rw [if_neg (by omega), if_neg (by omega), if_neg (by omega), if_neg (by omega), if_neg (by omega)]
  simp only [hj, decide_true, Bool.true_and]
  have h1 : 35 + j - 8 - 8 - 8 - 8 - 3 = j := by omega
  rw [h1]

theorem SelectionBits.rawH (len : Nat) (frame : Frame) : SelectionBits.Statement (.rawH len frame) :=
  request_word_selection _
theorem SelectionBits.rawT (len : Nat) (frame : Frame) : SelectionBits.Statement (.rawT len frame) :=
  request_word_selection _
theorem SelectionBits.scaleH (len : Nat) (frame : Frame) : SelectionBits.Statement (.scaleH len frame) :=
  request_word_selection _
theorem SelectionBits.scaleT (len : Nat) (frame : Frame) : SelectionBits.Statement (.scaleT len frame) :=
  request_word_selection _
theorem SelectionBits.offsetH (len : Nat) (frame : Frame) : SelectionBits.Statement (.offsetH len frame) :=
  request_word_selection _
theorem SelectionBits.offsetT (len : Nat) (frame : Frame) : SelectionBits.Statement (.offsetT len frame) :=
  request_word_selection _
theorem SelectionBits.rsvdH (len : Nat) (frame : Frame) : SelectionBits.Statement (.rsvdH len frame) :=
  request_word_selection _
theorem SelectionBits.rsvdT (len : Nat) (frame : Frame) : SelectionBits.Statement (.rsvdT len frame) :=
  request_word_selection _

end Sys2Proof.Laws
end

