-- ==== Sys2Proof/Laws/ResponsePort.lean ====
section
/-! SUPPORT. Laws/ResponsePort.lean: what a read of a response's value field can answer, and the widths' parts. -/

namespace Sys2Proof.Machine

/-- A value field reads as a value exactly on an OK response. -/
theorem readField_next {α : Type} {field : Result → α} {r : Response} {a : α}
    (h : readField field r = .next a) : ∃ res, r = .ok res ∧ a = field res := by
  cases r with
  | ok res => cases h; exact ⟨res, rfl, rfl⟩
  | error e => cases h

/-- What the value bits of an OK response word can read as. -/
theorem resultOfWord_next {w : ResponseWord} {res : Result} (h : resultOfWord w = .next res) :
    (w.extractLsb' 66 1 = 1 ∧ res = .frac (w.extractLsb' 0 32) (w.extractLsb' 32 32)) ∨
    (w.extractLsb' 66 1 ≠ 1 ∧ w.extractLsb' 32 32 = 0 ∧ res = .int (w.extractLsb' 0 32)) := by
  unfold resultOfWord at h
  split at h
  · rename_i h1
    cases h
    exact .inl ⟨h1, rfl⟩
  · rename_i h1
    split at h
    · rename_i h2
      cases h
      exact .inr ⟨h1, h2, rfl⟩
    · cases h

@[simp] theorem errCode_ok (r : Result) : errCode (.ok r) = 0 := rfl
@[simp] theorem errCode_sizeMismatch : errCode (.error .sizeMismatch) = 1 := rfl
@[simp] theorem errCode_unsupportedInfoType : errCode (.error .unsupportedInfoType) = 2 := rfl

end Sys2Proof.Machine
end

