-- ==== Sys2Proof/Tests/Slice0.lean ====
section
/-! SUPPORT. Tests/Slice0.lean: the model's own tests. Expected results are those of spec/95_test_vectors.md (V1 to V40,
S1 to S8, P-1 to P-14, Programs 1 to 4), never the model's own answers. The second part holds a witness for the hypotheses
of each statement in Certificates/Slice0/Obligations.lean that has any. -/

namespace Sys2Proof.Tests

open Sys2Proof.Machine

/-! Well-formedness: each check refuses an ill-formed term. -/

theorem test_wf_refuses_frame_len_8 : ¬ (Instr.rawH 8 ⟨0, 0, 0, 0⟩).WellFormed := by decide
theorem test_wf_accepts_frame_len_7 : (Instr.rsvdT 7 ⟨0, 0, 0, 0⟩).WellFormed := by decide
theorem test_asm_refuses_len_8 : (AsmLine.rawT 8 []).wellFormed = false := by decide
theorem test_asm_refuses_five_bytes : (AsmLine.rawH 2 [none, none, none, none, none]).wellFormed = false := by decide
theorem test_asm_item_refuses_len_8 : (AsmItem.readH 8 []).wellFormed = false := by decide
theorem test_asm_item_refuses_five_bytes :
    (AsmItem.readT 4 [none, none, none, none, none]).wellFormed = false := by decide

/-! Decoding: a word of each operation, its bits written out from 30_encoding.md R60 and R65. -/

theorem test_decode_rawH : decode 0b00001000010010001101001010101001010101 = .rawH 2 ⟨0x12, 0x34, 0xAA, 0x55⟩ := by decide
theorem test_decode_rawT : decode 0b00110000000000000000000101000000000100 = .rawT 4 ⟨0, 0, 0x50, 0x04⟩ := by decide
theorem test_decode_scaleH : decode 0b01011111111111111111111111111111111111 = .scaleH 7 ⟨0xFF, 0xFF, 0xFF, 0xFF⟩ := by decide
theorem test_decode_scaleT : decode 0b01101000010010001101000000000000000000 = .scaleT 2 ⟨0x12, 0x34, 0, 0⟩ := by decide
theorem test_decode_offsetH : decode 0b10000000000000000000000000000000000000 = .offsetH 0 ⟨0, 0, 0, 0⟩ := by decide
theorem test_decode_offsetT : decode 0b10110000000000000000000101000000000100 = .offsetT 4 ⟨0, 0, 0x50, 0x04⟩ := by decide
theorem test_decode_rsvdH : decode 0b11001000010010001101000000000000000000 = .rsvdH 2 ⟨0x12, 0x34, 0, 0⟩ := by decide
theorem test_decode_rsvdT : decode 0b11100000000000000000000000000000000000 = .rsvdT 0 ⟨0, 0, 0, 0⟩ := by decide
theorem test_encode_rawT : encode (.rawT 4 ⟨0x12, 0x34, 0x63, 0x40⟩) = 0x0C12346340 := by decide
theorem test_decode_rejects_bit_38 : (decodeBits (2 ^ 38)).toOption = none := by decide
theorem test_decode_table_word : decodeTableWord 40 0x2800000000 = some (.offsetT 0 ⟨0, 0, 0, 0⟩) := by decide

/-! One request, its response: 95_test_vectors.md section 2. -/

/-- The responses to one request presented after reset. -/
def answersTo (w : RequestWord) : List Response := transcript 1 (State.reset.present w)

theorem test_V9_rawH_masks_status_bits : answersTo 0x02D2340000 = [.ok (.int 4660)] := by decide
theorem test_V11_rawH_refuses_four_bytes : answersTo 0x0412345004 = [.error .sizeMismatch] := by decide
theorem test_V17_rawT_truncates : answersTo 0x0C00005007 = [.ok (.int 5121)] := by decide
theorem test_V25_rawT_refuses_two_bytes : answersTo 0x0A12340000 = [.error .sizeMismatch] := by decide
theorem test_V30_scaleH_ignores_frame : answersTo 0x17FFFFFFFF = [.ok (.frac 100 16384)] := by decide
theorem test_V32_scaleT_no_size_check : answersTo 0x1A12340000 = [.ok (.frac 100 9929)] := by decide
theorem test_V34_offsetT : answersTo 0x2C00005004 = [.ok (.int 0xFFFFFFD8)] := by decide
theorem test_V36_offsetH_unsupported : answersTo 0x2212340000 = [.error .unsupportedInfoType] := by decide
theorem test_V38_rsvdH_unsupported : answersTo 0x3212340000 = [.error .unsupportedInfoType] := by decide
theorem test_V40_rsvdT_unsupported : answersTo 0x3C00005004 = [.error .unsupportedInfoType] := by decide

/-! The response word: 95_test_vectors.md section 2. -/

theorem test_V1_response_word : responseWord 0 (.ok (.int 4660)) = 0x00000000000001234 := by decide
theorem test_V31_response_word : responseWord 0 (.ok (.frac 100 9929)) = 0x4000026C900000064 := by decide
theorem test_V33_response_word : responseWord 0 (.ok (.int (-40))) = 0x000000000FFFFFFD8 := by decide

/-! The assembler and PHYS: 30_encoding.md R74, R75, 95_test_vectors.md section 2.3. -/

theorem test_program2_words : assembleProgram [.readT 4 [some 0x12, some 0x34, some 0x50, some 0x04]] =
    [0x0C12345004, 0x1800000000, 0x2800000000] := by decide
theorem test_V26_missing_bytes : encode (assemble (.rawT 3 [none, none, some 0x50])) = 0x0B00005000 := by decide
theorem test_V29_text : responseText (.ok (.frac 100 16384)) = "OK FRAC 100/16384" := by decide
theorem test_V33_text : responseText (.ok (.int (-40))) = "OK INT -40" := by decide
theorem test_P5_phys : phys .humidity 16383 = 409575 / 4096 := by norm_num [phys, rom]
theorem test_P10_phys : phys .temperature 5121 = 114940 / 9929 := by norm_num [phys, rom]

/-! Witnesses: states and operands that meet the hypotheses of the statements. -/

/-- A state with one request pending after an answered one. -/
def waiting (w : RequestWord) : State := { pending := [w, 0x1000000000], response := some (.error .sizeMismatch) }

theorem witness_StepRunsDecodedRequest : (waiting 0x0212340000).pending = 0x0212340000 :: [0x1000000000] := rfl
theorem witness_StepRefinesRespond : (waiting 0x3FFFFFFFFF).pending = 0x3FFFFFFFFF :: [0x1000000000] := rfl
theorem witness_StepFrame : (waiting 0).pending ≠ [] := by decide
theorem witness_IdleStepHoldsNoResponse :
    ({ pending := [], response := some (.ok (.int 5)) } : State).pending = [] := rfl
theorem witness_DecodeEncodeAgree :
    (Instr.rawT 7 ⟨0xFF, 0, 0xFF, 0xFF⟩).WellFormed ∧ (Instr.rawH 0 ⟨0, 0, 0, 0⟩).WellFormed := by decide
theorem witness_OperationMapSelects :
    (⟨.reserved, .temperature, 0x3800000000, 0x3800000000⟩ : OpRow) ∈ opTable ∧
    (0x3FFFFFFFFF : RequestWord).extractLsb' 35 3 = (0x3800000000 : RequestWord).extractLsb' 35 3 := by decide
theorem witness_PlacedWordRunsNext : decodeTableWord 40 0x3FFFFFFFFF = some (.rsvdT 7 ⟨0xFF, 0xFF, 0xFF, 0xFF⟩) := by decide
theorem witness_RawHumidityWords : (waiting 0x0212340000).pending = 0x0212340000 :: [0x1000000000] ∧
    (0x0212340000 : RequestWord) &&& 0x3800000000 = 0x0000000000 := by decide
theorem witness_RawHumidityWords_wrong_length : (waiting 0x0712345004).pending = 0x0712345004 :: [0x1000000000] ∧
    (0x0712345004 : RequestWord) &&& 0x3800000000 = 0x0000000000 := by decide
theorem witness_RawTemperatureWords : (waiting 0x0C0000FFFF).pending = 0x0C0000FFFF :: [0x1000000000] ∧
    (0x0C0000FFFF : RequestWord) &&& 0x3800000000 = 0x0800000000 := by decide
theorem witness_RawTemperatureWords_wrong_length : (waiting 0x0800000000).pending = 0x0800000000 :: [0x1000000000] ∧
    (0x0800000000 : RequestWord) &&& 0x3800000000 = 0x0800000000 := by decide
theorem witness_RawCounts_success : ∃ t, exec (select .raw .humidity 2 ⟨0xFF, 0xFF, 0, 0⟩) State.reset = .next t ∧
    t.response = some (.ok (.int 0x3FFF)) := ⟨_, rfl, by decide⟩
theorem witness_RawCounts_onto : 0x3FFF ≤ 0x3FFF ∧ 0 ≤ 0x3FFF := by decide
theorem witness_BytesOutsideFrameIgnored : ∀ i : Fin 4, i.val < 2 →
    frameByte ⟨1, 2, 3, 4⟩ i = frameByte ⟨1, 2, 5, 6⟩ i := by decide
theorem witness_ScaleHumidityWords : (waiting 0x17FFFFFFFF).pending = 0x17FFFFFFFF :: [0x1000000000] ∧
    (0x17FFFFFFFF : RequestWord) &&& 0x3800000000 = 0x1000000000 := by decide
theorem witness_ScaleTemperatureWords : (waiting 0x1A12340000).pending = 0x1A12340000 :: [0x1000000000] ∧
    (0x1A12340000 : RequestWord) &&& 0x3800000000 = 0x1800000000 := by decide
theorem witness_OffsetTemperatureWords : (waiting 0x2C00005004).pending = 0x2C00005004 :: [0x1000000000] ∧
    (0x2C00005004 : RequestWord) &&& 0x3800000000 = 0x2800000000 := by decide
theorem witness_OffsetHumidityWords : (waiting 0x2212340000).pending = 0x2212340000 :: [0x1000000000] ∧
    (0x2212340000 : RequestWord) &&& 0x3800000000 = 0x2000000000 := by decide
theorem witness_ReservedWords_H : (waiting 0x3212340000).pending = 0x3212340000 :: [0x1000000000] ∧
    (0x3212340000 : RequestWord) &&& 0x3800000000 = 0x3000000000 := by decide
theorem witness_ReservedWords_T : (waiting 0x3C00005004).pending = 0x3C00005004 :: [0x1000000000] ∧
    (0x3C00005004 : RequestWord) &&& 0x3800000000 = 0x3800000000 := by decide
theorem witness_AtMostOneErrorApplies_unsupported : ∃ t, exec (.offsetH 2 ⟨0, 0, 0, 0⟩) (waiting 0) = .next t ∧
    t.response = some (.error .unsupportedInfoType) := ⟨_, rfl, rfl⟩
theorem witness_AtMostOneErrorApplies_size : ∃ t, exec (.rawT 2 ⟨0, 0, 0, 0⟩) (waiting 0) = .next t ∧
    t.response = some (.error .sizeMismatch) := ⟨_, rfl, rfl⟩
theorem witness_OperationFrame : ∃ t, exec (.rsvdT 0 ⟨0, 0, 0, 0⟩) (waiting 0) = .next t := ⟨_, rfl⟩
theorem witness_OrderChangesNoResponse : [0x0212340000, 0x1000000000].Perm [(0x1000000000 : RequestWord), 0x0212340000] :=
  .swap _ _ _
theorem witness_OrderChangesNoResponse_member :
    ((0x1000000000 : RequestWord), Response.ok (.frac 100 16384)) ∈
      [0x1000000000].zip (transcript [(0x1000000000 : RequestWord)].length { pending := [0x1000000000], response := none }) := by
  decide
theorem witness_StepKeepsLegalResponse : State.reset.Inv ∧ ∃ t, step State.reset = .next t :=
  ⟨fun _ h => (nomatch h), _, rfl⟩
theorem witness_ResponseValues_raw : ∃ t, exec (.rawT 4 ⟨0, 0, 0xFF, 0xFF⟩) (waiting 0) = .next t ∧
    t.response = some (.ok (.int 0x3FFF)) ∧ (Instr.rawT 4 ⟨0, 0, 0xFF, 0xFF⟩).info = .raw := ⟨_, rfl, by decide, rfl⟩
theorem witness_ResponseValues_offset : ∃ t, exec (.offsetT 0 ⟨0, 0, 0, 0⟩) (waiting 0) = .next t ∧
    t.response = some (.ok (.int (-40))) ∧ (Instr.offsetT 0 ⟨0, 0, 0, 0⟩).info = .offset := ⟨_, rfl, by decide, rfl⟩
theorem witness_ResponseValues_scale : ∃ t, exec (.scaleT 0 ⟨0, 0, 0, 0⟩) (waiting 0) = .next t ∧
    t.response = some (.ok (.frac 100 9929)) ∧ (Instr.scaleT 0 ⟨0, 0, 0, 0⟩).info = .scale := ⟨_, rfl, by decide, rfl⟩
theorem witness_ReadingResponse_value : (waiting 0).response = some (.error .sizeMismatch) := rfl
theorem witness_PhysicalValueRanges : 16383 ≤ 16383 ∧ 0 ≤ 16383 := by decide
theorem witness_ShortReadRejected : FromTransaction [0x12, 0x34, 0x50] 3 ⟨0x12, 0x34, 0x50, 0xFF⟩ ∧
    [(0x12 : Byte), 0x34, 0x50].length ≠ (rom .temperature).len := by
  refine ⟨⟨rfl, ?_⟩, by decide⟩
  intro i b h
  match i with
  | 0 => exact Option.some.inj h
  | 1 => exact Option.some.inj h
  | 2 => exact Option.some.inj h
  | 3 => exact nomatch h
theorem witness_AssembledLinesEncodable : (AsmLine.rawH 7 [some 1, none, some 2, some 3]).wellFormed = true ∧
    AsmLine.scaleT.wellFormed = true ∧
    (∀ len bytes, AsmLine.scaleT ≠ .rawH len bytes ∧ AsmLine.scaleT ≠ .rawT len bytes) :=
  ⟨by decide, by decide, fun _ _ => ⟨nofun, nofun⟩⟩

end Sys2Proof.Tests
end

section
/-! Settles the statement that a response ignores history (10_state.md R20): every operation answers with one response,
the same from every state; so one step from a given request word is one equation, and a run's last answer is the last
request's. -/

namespace Sys2Proof.History
open Sys2Proof.Machine

/-- `op` is a constant answer: one response, given from every state, and nothing else changed. -/
def AnswersAlike (op : State → Answer) : Prop := ∃ r, ∀ s, op s = .next (s.answer r)

theorem respondInt_answersAlike (v : Word) : AnswersAlike (respondInt v) := ⟨.ok (.int v), fun _ => rfl⟩

theorem respondFrac_answersAlike (n d : Word) : AnswersAlike (respondFrac n d) := ⟨.ok (.frac n d), fun _ => rfl⟩

theorem raiseError_answersAlike (e : DecodeError) : AnswersAlike (raiseError e) := ⟨.error e, fun _ => rfl⟩

/-- The descriptor gate reads the constant table only. -/
theorem gated_answersAlike (kind : ChannelKind) (info : InfoType) {op : State → Answer} (h : AnswersAlike op) :
    AnswersAlike (gated kind info op) := by
  unfold gated
  cases legal kind info
  · exact raiseError_answersAlike .unsupportedInfoType
  · exact h

/-- The frame-size check reads the request and the ROM only. -/
theorem sizeChecked_answersAlike (kind : ChannelKind) (len : Nat) {op : State → Answer} (h : AnswersAlike op) :
    AnswersAlike (sizeChecked kind len op) := by
  by_cases hlen : len = (rom kind).len
  · obtain ⟨r, hr⟩ := h
    exact ⟨r, fun s => (sizeChecked_of_eq hlen).trans (hr s)⟩
  · exact ⟨.error .sizeMismatch, fun _ => sizeChecked_of_ne hlen⟩

theorem exec_answersAlike (i : Instr) : AnswersAlike (exec i) := by
  cases i with
  | rawH len frame =>
    exact gated_answersAlike .humidity .raw (sizeChecked_answersAlike .humidity len (respondInt_answersAlike _))
  | rawT len frame =>
    exact gated_answersAlike .temperature .raw (sizeChecked_answersAlike .temperature len (respondInt_answersAlike _))
  | scaleH => exact gated_answersAlike .humidity .scale (respondFrac_answersAlike _ _)
  | scaleT => exact gated_answersAlike .temperature .scale (respondFrac_answersAlike _ _)
  | offsetH => exact gated_answersAlike .humidity .offset (raiseError_answersAlike .unsupportedInfoType)
  | offsetT => exact gated_answersAlike .temperature .offset (respondInt_answersAlike _)
  | rsvdH => exact gated_answersAlike .humidity .reserved (raiseError_answersAlike .unsupportedInfoType)
  | rsvdT => exact gated_answersAlike .temperature .reserved (raiseError_answersAlike .unsupportedInfoType)

theorem step_of_pending {s : State} {w : RequestWord} {rest : List RequestWord} (h : s.pending = w :: rest) :
    step s = exec (decode w) { s with pending := rest } := by
  unfold step
  rw [nextRequest_of_pending h]

theorem transcript_succ_of_step {s t : State} (k : Nat) (h : step s = .next t) :
    transcript (k + 1) s = t.response.toList ++ transcript k t := by
  simp only [transcript, h]

/-- A request word fixes its response `r`: whatever else is pending and whatever the response record held, the next
entry of the transcript is `r`, and the run goes on from the requests left. -/
theorem transcript_cons (w : RequestWord) : ∃ r, ∀ (k : Nat) (rest : List RequestWord) (before : Option Response),
    transcript (k + 1) { pending := w :: rest, response := before } =
      r :: transcript k { pending := rest, response := some r } := by
  obtain ⟨r, hr⟩ := exec_answersAlike (decode w)
  refine ⟨r, fun k rest before => ?_⟩
  have hstep : step { pending := w :: rest, response := before } = .next { pending := rest, response := some r } :=
    (step_of_pending rfl).trans (hr _)
  exact transcript_succ_of_step k hstep

/-- Requests that are answered first do not change what the last request's answer is. -/
theorem transcript_append_getLast? (w : RequestWord) : ∃ r, ∀ (earlier : List RequestWord) (before : Option Response),
    (transcript (earlier.length + 1) { pending := earlier ++ [w], response := before }).getLast? = some r := by
  obtain ⟨r, hr⟩ := transcript_cons w
  refine ⟨r, fun earlier => ?_⟩
  induction earlier with
  | nil =>
    intro before
    exact congrArg List.getLast? (hr 0 [] before)
  | cons v earlier ih =>
    intro before
    obtain ⟨r', hr'⟩ := transcript_cons v
    rw [List.length_cons, List.cons_append, hr', List.getLast?_cons, ih (some r'), Option.getD_some]

/-- Settles O31, by induction on the earlier requests: each takes one step, whose answer the rest of the run ignores. -/
theorem responseIgnoresHistory : Obligations.ResponseIgnoresHistory := by
  intro earlier w before
  obtain ⟨r, hlast⟩ := transcript_append_getLast? w
  obtain ⟨r', hcons⟩ := transcript_cons w
  have halone : transcript 1 { pending := [w], response := none } = [r'] := hcons 0 [] none
  have hsame : r' = r := by simpa [halone] using hlast [] none
  simp [hlast earlier before, halone, hsame]

end Sys2Proof.History
end

section
/-! Settles the statement about the operation map (30_encoding.md R65): a word's operation and its match under the map's
mask are both fixed by the three selection bits [37:35], which are the codes of the info type and the kind. -/

namespace Sys2Proof.OperationMap

theorem infoTypeOfCode_eq_iff {c : BitVec 2} {info : InfoType} : InfoType.ofCode c = info ↔ c = info.code := by
  constructor
  · rintro rfl
    exact (InfoType.code_ofCode c).symm
  · rintro rfl
    exact InfoType.ofCode_code info

theorem channelKindOfCode_eq_iff {c : BitVec 1} {kind : ChannelKind} :
    ChannelKind.ofCode c = kind ↔ c = kind.code := by
  constructor
  · rintro rfl
    exact (ChannelKind.code_ofCode c).symm
  · rintro rfl
    exact ChannelKind.ofCode_code kind

theorem decode_info (w : RequestWord) : (decode w).info = .ofCode (w.extractLsb' 36 2) := select_info ..

theorem decode_kind (w : RequestWord) : (decode w).kind = .ofCode (w.extractLsb' 35 1) := select_kind ..

/-- Bits [37:35] are the fields `info` and `kind`, in that order (30_encoding.md R60). -/
theorem selectionBits_eq_append (w : RequestWord) :
    w.extractLsb' 35 3 = w.extractLsb' 36 2 ++ w.extractLsb' 35 1 :=
  (BitVec.extractLsb'_append_extractLsb'_eq_extractLsb' (start₁ := 35) (len₁ := 1) (len₂ := 2) rfl).symm

theorem append_eq_append_iff {n m : Nat} {a c : BitVec n} {b d : BitVec m} : a ++ b = c ++ d ↔ a = c ∧ b = d := by
  constructor
  · intro h
    have hhi := congrArg (BitVec.extractLsb' m n) h
    have hlo := congrArg (BitVec.extractLsb' 0 m) h
    rw [BitVec.extractLsb'_append_eq_left, BitVec.extractLsb'_append_eq_left] at hhi
    rw [BitVec.extractLsb'_append_eq_right, BitVec.extractLsb'_append_eq_right] at hlo
    exact ⟨hhi, hlo⟩
  · rintro ⟨rfl, rfl⟩
    rfl

/-- The selection bits, and no others, fix which operation a word decodes to. -/
theorem decode_selects_iff {w : RequestWord} {info : InfoType} {kind : ChannelKind} :
    (decode w).info = info ∧ (decode w).kind = kind ↔ w.extractLsb' 35 3 = info.code ++ kind.code := by
  rw [decode_info, decode_kind, infoTypeOfCode_eq_iff, channelKindOfCode_eq_iff, selectionBits_eq_append,
    append_eq_append_iff]

/-- The map's mask keeps the selection bits and clears bits [34:0]. -/
theorem and_selectionMask (w : RequestWord) : w &&& 0x3800000000 = w.extractLsb' 35 3 ++ 0#35 := by
  have hword : w = w.extractLsb' 35 3 ++ w.extractLsb' 0 35 :=
    (BitVec.extractLsb'_append_extractLsb' (w := 3) (len := 35)).symm
  have hmask : (0x3800000000 : RequestWord) = BitVec.allOnes 3 ++ 0#35 := by decide
  calc w &&& 0x3800000000
      = (w.extractLsb' 35 3 ++ w.extractLsb' 0 35) &&& (BitVec.allOnes 3 ++ 0#35) := by rw [← hword, hmask]
    _ = w.extractLsb' 35 3 ++ 0#35 := by rw [BitVec.and_append, BitVec.and_allOnes, BitVec.and_zero]

/-- What the eight rows share: the mask, and a match that holds the codes of the row's info type and kind. -/
theorem opTable_row : ∀ row ∈ opTable,
    row.mask = 0x3800000000 ∧ row.bits = (row.info.code ++ row.kind.code) ++ 0#35 := by decide

theorem row_matches_iff (w : RequestWord) {row : OpRow} (h : row ∈ opTable) :
    w &&& row.mask = row.bits ↔ (decode w).info = row.info ∧ (decode w).kind = row.kind := by
  obtain ⟨hmask, hbits⟩ := opTable_row row h
  rw [hmask, hbits, and_selectionMask, BitVec.append_left_inj, decode_selects_iff]

theorem decode_selection_congr {w w' : RequestWord} (h : w.extractLsb' 35 3 = w'.extractLsb' 35 3) :
    (decode w).info = (decode w').info ∧ (decode w).kind = (decode w').kind :=
  decode_selects_iff.mpr (h.trans (decode_selects_iff.mp ⟨rfl, rfl⟩))

/-- Settles O5: the map is written as the spec writes it, and a row's match and the decoder both read the selection bits
alone. -/
theorem operationMapSelects : Obligations.OperationMapSelects :=
  ⟨rfl, fun w _ hrow => row_matches_iff w hrow, fun _ _ h => decode_selection_congr h⟩

end Sys2Proof.OperationMap
end

section
/-! Settles the statements about the two RAW operations (40_decode_raw.md R80 to R84). One equation says what a RAW
operation answers at every length; each raw count is the number whose bits are a slice of one frame byte beside a slice of
the next (R85), and its bound and its independence of the status bits are read off those slices. -/

namespace Sys2Proof.RawCounts
open Sys2Proof.Machine Sys2Proof.History Sys2Proof.OperationMap

/-! What a word that matches a row of the operation map runs. -/

/-- A word that matches a row is the operation that the row names, with the word's own length and bytes. -/
theorem decode_of_row_matches {w : RequestWord} {row : OpRow} (hrow : row ∈ opTable) (h : w &&& row.mask = row.bits) :
    decode w = select row.info row.kind (w.extractLsb' 32 3).toNat (requestOf w).frame := by
  obtain ⟨hinfo, hkind⟩ := (row_matches_iff w hrow).mp h
  have hlen : (decode w).frameLen = (w.extractLsb' 32 3).toNat := select_frameLen ..
  have hframe : (decode w).frame = (requestOf w).frame := select_frame ..
  rw [← select_self (decode w), hinfo, hkind, hlen, hframe]

theorem step_of_row_matches {s : State} {w : RequestWord} {rest : List RequestWord} {row : OpRow}
    (hs : s.pending = w :: rest) (hrow : row ∈ opTable) (h : w &&& row.mask = row.bits) :
    step s = exec (select row.info row.kind (w.extractLsb' 32 3).toNat (requestOf w).frame)
      { s with pending := rest } := by
  rw [step_of_pending hs, decode_of_row_matches hrow h]

/-! What a RAW operation answers. -/

/-- The answer of a RAW operation whose raw count is `v` (40_decode_raw.md R80). -/
def rawAnswer (kind : ChannelKind) (len : Nat) (v : Word) : Response :=
  if len = (rom kind).len then .ok (.int v) else .error .sizeMismatch

theorem rawAnswer_eq_sizeMismatch_iff {kind : ChannelKind} {len : Nat} {v : Word} :
    rawAnswer kind len v = .error .sizeMismatch ↔ len ≠ (rom kind).len := by
  by_cases hlen : len = (rom kind).len <;> simp [rawAnswer, hlen]

/-- The size check on a `frame_len` field compares its three bits. -/
theorem rawAnswer_toNat (kind : ChannelKind) (len : BitVec 3) (v : Word) :
    rawAnswer kind len.toNat v =
      if len = BitVec.ofNat 3 (rom kind).len then .ok (.int v) else .error .sizeMismatch := by
  have hlen : len.toNat = (rom kind).len ↔ len = BitVec.ofNat 3 (rom kind).len := by
    rw [← BitVec.toNat_inj]
    cases kind <;> rfl
  simp only [rawAnswer, hlen]

theorem sizeChecked_respondInt (kind : ChannelKind) (len : Nat) (v : Word) (s : State) :
    sizeChecked kind len (respondInt v) s = .next (s.answer (rawAnswer kind len v)) := by
  unfold rawAnswer
  by_cases hlen : len = (rom kind).len
  · rw [sizeChecked_of_eq hlen, if_pos hlen, respondInt]
  · rw [sizeChecked_of_ne hlen, if_neg hlen, raiseError]

/-- The raw count of a kind's frame (40_decode_raw.md R81, R82). -/
def rawCount : ChannelKind → Frame → Nat
  | .humidity => rawCountHumidity
  | .temperature => rawCountTemperature

theorem exec_select_raw (kind : ChannelKind) (len : Nat) (f : Frame) (s : State) :
    exec (select .raw kind len f) s = .next (s.answer (rawAnswer kind len (zext32 (rawCount kind f)))) := by
  cases kind with
  | humidity => exact sizeChecked_respondInt ..
  | temperature => exact sizeChecked_respondInt ..

theorem exec_rawH (len : Nat) (f : Frame) (s : State) :
    exec (.rawH len f) s = .next (s.answer (rawAnswer .humidity len (zext32 (rawCountHumidity f)))) :=
  exec_select_raw .humidity len f s

theorem exec_rawT (len : Nat) (f : Frame) (s : State) :
    exec (.rawT len f) s = .next (s.answer (rawAnswer .temperature len (zext32 (rawCountTemperature f)))) :=
  exec_select_raw .temperature len f s

/-- A step on a word that matches a RAW row: the size check reads the word's length field, the count its bytes. -/
theorem step_of_raw_row_matches {s : State} {w : RequestWord} {rest : List RequestWord} {kind : ChannelKind}
    {bits : RequestWord} (hs : s.pending = w :: rest) (hrow : ⟨.raw, kind, 0x3800000000, bits⟩ ∈ opTable)
    (h : w &&& 0x3800000000 = bits) :
    step s = .next
      { pending := rest,
        response := some (if w.extractLsb' 32 3 = BitVec.ofNat 3 (rom kind).len
          then .ok (.int (zext32 (rawCount kind (requestOf w).frame))) else .error .sizeMismatch) } := by
  rw [step_of_row_matches hs hrow h, exec_select_raw, rawAnswer_toNat]
  rfl

theorem exec_rawH_two {f : Frame} {n : Nat} (s : State) (h : rawCountHumidity f = n) :
    exec (.rawH 2 f) s = .next { s with response := some (.ok (.int (BitVec.ofNat 32 n))) } := by
  subst h
  exact exec_rawH ..

theorem exec_rawT_four {f : Frame} {n : Nat} (s : State) (h : rawCountTemperature f = n) :
    exec (.rawT 4 f) s = .next { s with response := some (.ok (.int (BitVec.ofNat 32 n))) } := by
  subst h
  exact exec_rawT ..

theorem next_answer_inj {s : State} {r r' : Response} :
    (.next (s.answer r) : Answer) = .next (s.answer r') ↔ r = r' := by
  simp [State.answer]

/-! The raw counts as slices of the frame bytes. -/

theorem and_0x3F_eq_slice (b : Byte) : b.toNat &&& 0x3F = (b.extractLsb' 0 6).toNat := by
  rw [BitVec.extractLsb'_toNat, Nat.shiftRight_zero]
  exact Nat.and_two_pow_sub_one_eq_mod b.toNat 6

theorem div_four_eq_shiftRight (b : Byte) : b.toNat / 4 = (b >>> 2).toNat := by
  rw [BitVec.toNat_ushiftRight, Nat.shiftRight_eq_div_pow]

/-- Truncating division by four drops the low two bits and no others (40_decode_raw.md R84). -/
theorem div_four_eq_slice (b : Byte) : b.toNat / 4 = (b.extractLsb' 2 6).toNat := by
  have hfits : b.toNat / 4 < 2 ^ 6 := by omega
  rw [BitVec.extractLsb'_toNat, Nat.shiftRight_eq_div_pow, Nat.mod_eq_of_lt hfits]

/-- Shifting past a field and adding the field's number sets no carry, so it is OR. -/
theorem shiftLeft_add_toNat {n : Nat} (a : Nat) (b : BitVec n) : a <<< n + b.toNat = a <<< n ||| b.toNat :=
  Nat.shiftLeft_add_eq_or_of_lt b.isLt a

/-- The bit map of the humidity count (40_decode_raw.md R85). -/
theorem rawCountHumidity_eq_slices (f : Frame) : rawCountHumidity f = (f.b0.extractLsb' 0 6 ++ f.b1).toNat := by
  rw [BitVec.toNat_append, ← and_0x3F_eq_slice]
  rfl

/-- The bit map of the temperature count (40_decode_raw.md R85). -/
theorem rawCountTemperature_eq_slices (f : Frame) :
    rawCountTemperature f = (f.b2 ++ f.b3.extractLsb' 2 6).toNat := by
  rw [BitVec.toNat_append, ← shiftLeft_add_toNat, ← div_four_eq_slice]
  rfl

theorem rawCountHumidity_le (f : Frame) : rawCountHumidity f ≤ 0x3FFF := by
  rw [rawCountHumidity_eq_slices]
  exact Nat.le_of_lt_succ (BitVec.isLt _)

theorem rawCountTemperature_le (f : Frame) : rawCountTemperature f ≤ 0x3FFF := by
  rw [rawCountTemperature_eq_slices]
  exact Nat.le_of_lt_succ (BitVec.isLt _)

/-! The discarded bits. -/

theorem statusBits_withStatusBits (f : Frame) (status : BitVec 2) : statusBits (withStatusBits f status) = status :=
  BitVec.extractLsb'_append_eq_left

theorem rawCountHumidity_withStatusBits (f : Frame) (status : BitVec 2) :
    rawCountHumidity (withStatusBits f status) = rawCountHumidity f := by
  have hdata : (withStatusBits f status).b0.extractLsb' 0 6 = f.b0.extractLsb' 0 6 :=
    BitVec.extractLsb'_append_eq_right
  have hb1 : (withStatusBits f status).b1 = f.b1 := rfl
  rw [rawCountHumidity_eq_slices, rawCountHumidity_eq_slices, hdata, hb1]

/-- RAW.H masks the status bits, RAW.T reads bytes 2 and 3 only, and the conversions read no byte. -/
theorem exec_select_withStatusBits (info : InfoType) (kind : ChannelKind) (len : Nat) (f : Frame) (status : BitVec 2)
    (s : State) : exec (select info kind len (withStatusBits f status)) s = exec (select info kind len f) s := by
  cases info with
  | raw =>
    cases kind with
    | humidity =>
      show exec (.rawH len (withStatusBits f status)) s = exec (.rawH len f) s
      rw [exec_rawH, exec_rawH, rawCountHumidity_withStatusBits]
    | temperature => rfl
  | scale => cases kind <;> rfl
  | offset => cases kind <;> rfl
  | reserved => cases kind <;> rfl

theorem rawCountTemperature_replace_low_bits (f : Frame) (low : BitVec 2) :
    rawCountTemperature { f with b3 := f.b3.extractLsb' 2 6 ++ low } = rawCountTemperature f := by
  rw [rawCountTemperature_eq_slices, rawCountTemperature_eq_slices, BitVec.extractLsb'_append_eq_left]

/-! The obligations. -/

/-- Settles O8: the row RAW.H of the operation map runs RAW.H, whose count is two slices; the corner cases and the
example are computed. -/
theorem rawHumidityWords : Obligations.RawHumidityWords := by
  refine ⟨fun s w rest hs hmatch => ⟨?bound, ?carry, ?answer⟩, fun s b2 b3 => ⟨?_, ?_, ?_⟩⟩
  case bound => exact rawCountHumidity_le (requestOf w).frame
  case carry => exact (shiftLeft_add_toNat _ (w.extractLsb' 16 8)).symm
  case answer => exact step_of_raw_row_matches (kind := .humidity) hs (by decide) hmatch
  all_goals exact exec_rawH_two s (by simp [rawCountHumidity, frameByte])

/-- Settles O9: the row RAW.T of the operation map runs RAW.T, whose count is two slices; the corner cases and the
example are computed. -/
theorem rawTemperatureWords : Obligations.RawTemperatureWords := by
  refine ⟨fun s w rest hs hmatch => ⟨?bound, ?carry, ?answer⟩, fun s b0 b1 => ⟨?_, ?_, ?_, ?_⟩⟩
  case bound => exact rawCountTemperature_le (requestOf w).frame
  case carry => rw [div_four_eq_slice, shiftLeft_add_toNat]
  case answer => exact step_of_raw_row_matches (kind := .temperature) hs (by decide) hmatch
  all_goals exact exec_rawT_four s (by simp [rawCountTemperature, frameByte])

/-- Settles O11: a RAW operation's answer is SizeMismatch exactly when its size check fails. -/
theorem rawSizeCheck : Obligations.RawSizeCheck := by
  intro s len f
  rw [exec_rawH, exec_rawT]
  exact ⟨next_answer_inj.trans rawAnswer_eq_sizeMismatch_iff, next_answer_inj.trans rawAnswer_eq_sizeMismatch_iff⟩

/-- Settles O12: of all operations RAW.H alone reads frame byte 0, and it masks the status bits. -/
theorem statusBitsNeverData : Obligations.StatusBitsNeverData := fun info kind len f status s =>
  ⟨statusBits_withStatusBits f status, exec_select_withStatusBits info kind len f status s⟩

/-- Settles O13: the low byte enters the count as its slice [7:2] alone. -/
theorem temperatureTruncates : Obligations.TemperatureTruncates := by
  refine ⟨fun b => ⟨div_four_eq_shiftRight b, div_four_eq_slice b⟩, fun f s => ?_, fun f low len s => ?_⟩
  · rw [← div_four_eq_slice]
    exact exec_rawT_four s rfl
  · rw [exec_rawT, exec_rawT, rawCountTemperature_replace_low_bits]

end Sys2Proof.RawCounts
end

section
/-! Settles the statements about SCALE, OFFSET and the reserved info type (41_conversion.md R90 to R95), and the formula
of the physical value (R97). A conversion answers every length and every frame alike, so a word that matches a row of
the operation map is answered as that row's info type and kind are. -/

namespace Sys2Proof.Conversion
open Sys2Proof.Machine Sys2Proof.OperationMap Sys2Proof.RawCounts

/-! What the conversions answer. -/

/-- SCALE answers the conversion ROM's pair as it stands there, unreduced (41_conversion.md R90 to R92). -/
theorem exec_select_scale (kind : ChannelKind) (len : Nat) (f : Frame) (s : State) :
    exec (select .scale kind len f) s =
      .next (s.answer (.ok (.frac (zext32 (rom kind).num) (zext32 (rom kind).den)))) := by
  cases kind with
  | humidity => rfl
  | temperature => rfl

theorem exec_offsetT (len : Nat) (f : Frame) (s : State) :
    exec (.offsetT len f) s = .next (s.answer (.ok (.int (sext32 (rom .temperature).off)))) :=
  rfl

/-- A pair that the descriptor table does not allow is answered UnsupportedInfoType (41_conversion.md R96). -/
theorem exec_select_of_not_legal {info : InfoType} {kind : ChannelKind} (h : legal kind info = false)
    (len : Nat) (f : Frame) (s : State) :
    exec (select info kind len f) s = .next (s.answer (.error .unsupportedInfoType)) := by
  cases info with
  | raw => cases kind <;> cases h
  | scale => cases kind <;> cases h
  | offset =>
    cases kind with
    | humidity => rfl
    | temperature => cases h
  | reserved =>
    cases kind with
    | humidity => rfl
    | temperature => rfl

/-- Where an operation answers every length and frame alike, so does a step on each word that matches its row: bits
[34:0] make no difference. -/
theorem step_of_row_answers {s : State} {w : RequestWord} {rest : List RequestWord} {info : InfoType}
    {kind : ChannelKind} {bits : RequestWord} {r : Response} (hs : s.pending = w :: rest)
    (hrow : ⟨info, kind, 0x3800000000, bits⟩ ∈ opTable) (h : w &&& 0x3800000000 = bits)
    (hexec : ∀ len f t, exec (select info kind len f) t = .next (t.answer r)) :
    step s = .next { pending := rest, response := some r } := by
  rw [step_of_row_matches hs hrow h, hexec]
  rfl

theorem step_of_row_not_legal {s : State} {w : RequestWord} {rest : List RequestWord} {info : InfoType}
    {kind : ChannelKind} {bits : RequestWord} (hs : s.pending = w :: rest)
    (hrow : ⟨info, kind, 0x3800000000, bits⟩ ∈ opTable) (h : w &&& 0x3800000000 = bits)
    (hlegal : legal kind info = false) :
    step s = .next { pending := rest, response := some (.error .unsupportedInfoType) } :=
  step_of_row_answers hs hrow h (exec_select_of_not_legal hlegal)

/-! The physical value. -/

theorem phys_humidity (raw : Nat) : phys .humidity raw = (raw : ℚ) * 100 / 16384 := by
  simp [phys, rom]

theorem phys_temperature (raw : Nat) : phys .temperature raw = (raw : ℚ) * 100 / 9929 - 40 := by
  simp [phys, rom, sub_eq_add_neg]

/-- Adding the offset to the raw count scales it too, and so misses the physical value by a constant. -/
theorem phys_temperature_sub_offset_on_raw (raw : Nat) :
    phys .temperature raw - ((raw : ℚ) - 40) * 100 / 9929 = -393160 / 9929 := by
  rw [phys_temperature]
  ring

/-- What OFFSET.T answers is the ROM's offset in two's complement (41_conversion.md R93). -/
theorem offsetWord_toInt : (0xFFFFFFD8 : Word).toInt = -40 := by
  have hword : (0xFFFFFFD8 : Word) = sext32 (-40) := rfl
  rw [hword, sext32_toInt (by decide) (by decide)]

/-! The obligations. -/

/-- Settles O18: SCALE.H answers the ROM's pair whatever the length and the frame, and the meaning of its example is the
humidity formula. -/
theorem scaleHumidityWords : Obligations.ScaleHumidityWords := by
  refine ⟨fun s w rest hs hmatch => ?answer, ⟨?num, ?den⟩, ?meaning⟩
  case answer => exact step_of_row_answers hs (by decide) hmatch (exec_select_scale .humidity)
  case num => exact zext32_toInt (n := 100) (by decide)
  case den => exact zext32_toInt (n := 16384) (by decide)
  case meaning =>
    rw [phys_humidity]
    norm_num

/-- Settles O20: OFFSET.T answers the ROM's offset whatever the length and the frame, and the temperature formula adds
that word's value last. -/
theorem offsetTemperatureWords : Obligations.OffsetTemperatureWords := by
  refine ⟨fun s w rest hs hmatch => ?answer, offsetWord_toInt, fun raw => ?formula⟩
  case answer => exact step_of_row_answers (info := .offset) (kind := .temperature) hs (by decide) hmatch exec_offsetT
  case formula =>
    rw [phys_temperature, offsetWord_toInt, sub_eq_add_neg]
    norm_num

/-- Settles O21: the gate answers OFFSET.H, whose pair is not legal; the ROM's entry is 0 all the same. -/
theorem offsetHumidityWords : Obligations.OffsetHumidityWords := by
  refine ⟨fun s w rest hs hmatch => ?answer, rfl, fun raw => rfl⟩
  case answer => exact step_of_row_not_legal (info := .offset) (kind := .humidity) hs (by decide) hmatch rfl

/-- Settles O22: the gate answers both operations of the reserved info type, which is legal for neither kind. -/
theorem reservedWords : Obligations.ReservedWords := by
  rintro s w rest hs (humidity | temperature)
  · exact step_of_row_not_legal (info := .reserved) (kind := .humidity) hs (by decide) humidity rfl
  · exact step_of_row_not_legal (info := .reserved) (kind := .temperature) hs (by decide) temperature rfl

/-- Settles O45: the formula is the definition of PHYS with each kind's ROM entry put in; the wrong order is off by a
constant that is not 0. -/
theorem physicalValueFormula : Obligations.PhysicalValueFormula := by
  refine ⟨fun _ _ => rfl, phys_humidity, phys_temperature, fun raw => ?never, rfl⟩
  case never =>
    rw [← sub_ne_zero, phys_temperature_sub_offset_on_raw]
    norm_num

end Sys2Proof.Conversion
end

section
/-! Settles the statement about the error codes of a response word (60_exceptions.md R113). The word's `err` field is
`errCode` of its response, and no response has code 3; a consumer branches on that field first. -/

namespace Sys2Proof.ErrorCodes
open Sys2Proof.Machine

/-! What a response puts in the field. -/

theorem errCode_ne_three (r : Response) : errCode r ≠ 3 := by
  match r with
  | .ok res => simp
  | .error .sizeMismatch => simp
  | .error .unsupportedInfoType => simp

theorem errCode_eq_zero_iff (r : Response) : errCode r = 0 ↔ ∃ res, r = .ok res := by
  match r with
  | .ok res => simp
  | .error .sizeMismatch => simp
  | .error .unsupportedInfoType => simp

/-- The middle one of three fields starts where the low one ends. -/
theorem extractLsb'_append_append_middle {m n k : Nat} (hi : BitVec m) (mid : BitVec n) (lo : BitVec k) :
    (hi ++ mid ++ lo).extractLsb' k n = mid := by
  rw [BitVec.extractLsb'_append_eq_of_le (Nat.le_refl k), Nat.sub_self, BitVec.extractLsb'_append_eq_right]

/-- Bits [65:64] of the packed word are the field `err` (30_encoding.md R68), of an error as of a result. -/
theorem responseWord_err (noValue : ResponseWord) (r : Response) :
    (responseWord noValue r).extractLsb' 64 2 = errCode r := by
  cases r with
  | ok res =>
    have hvalues : responseWord noValue (.ok res) =
        rtypeCode res ++ errCode (.ok res) ++ (val2Field res ++ valField res) := BitVec.append_assoc
    rw [hvalues]
    exact extractLsb'_append_append_middle ..
  | error e => exact extractLsb'_append_append_middle ..

/-! What a consumer reads: one lemma for each value of the field. -/

theorem resultOfWord_cases (w : ResponseWord) :
    (∃ res, resultOfWord w = .next res) ∨ resultOfWord w = .refused .notAResponse := by
  unfold resultOfWord
  split
  · exact .inl ⟨_, rfl⟩
  · split
    · exact .inl ⟨_, rfl⟩
    · exact .inr rfl

/-- Value bits that are no result of the block are refused for what they are, not for the error code. -/
theorem readResponseWord_of_err_zero {w : ResponseWord} (h : w.extractLsb' 64 2 = 0) :
    (∃ res, readResponseWord w = .next (.ok res)) ∨ readResponseWord w = .refused .notAResponse := by
  obtain ⟨res, hres⟩ | hres := resultOfWord_cases w
  · exact .inl ⟨res, by simp [readResponseWord, h, hres]⟩
  · exact .inr (by simp [readResponseWord, h, hres])

theorem readResponseWord_of_err_one {w : ResponseWord} (h : w.extractLsb' 64 2 = 1) :
    readResponseWord w = .next (.error .sizeMismatch) := by
  simp [readResponseWord, h]

theorem readResponseWord_of_err_two {w : ResponseWord} (h : w.extractLsb' 64 2 = 2) :
    readResponseWord w = .next (.error .unsupportedInfoType) := by
  simp [readResponseWord, h]

theorem readResponseWord_of_err_three {w : ResponseWord} (h : w.extractLsb' 64 2 = 3) :
    readResponseWord w = .refused .errCodeThree := by
  simp [readResponseWord, h]

theorem readResponseWord_eq_errCodeThree_iff (w : ResponseWord) :
    readResponseWord w = .refused .errCodeThree ↔ w.extractLsb' 64 2 = 3 := by
  refine ⟨fun hread => ?_, readResponseWord_of_err_three⟩
  match herr : w.extractLsb' 64 2 with
  | 0 =>
    obtain ⟨res, hres⟩ | hres := readResponseWord_of_err_zero herr
    · simp [hres] at hread
    · simp [hres] at hread
  | 1 => simp [readResponseWord_of_err_one herr] at hread
  | 2 => simp [readResponseWord_of_err_two herr] at hread
  | 3 => rfl

/-! The obligation. -/

/-- Settles O44: the word's field is its response's code, of which none is 3 and results alone have 0; of the four values
a consumer can see, 3 alone is refused as that. -/
theorem errCodeThreeNeverProduced : Obligations.ErrCodeThreeNeverProduced := by
  refine ⟨fun noValue r => ?_, fun w => (readResponseWord_eq_errCodeThree_iff w).symm⟩
  rw [responseWord_err]
  exact ⟨errCode_ne_three r, errCode_eq_zero_iff r⟩

end Sys2Proof.ErrorCodes
end

section
/-! Settles the statements about the decoder and the encoder (30_encoding.md R60 to R66, R74). The request record and the
request word carry the same seven fields, each at its own bits, and an operation and its request record carry the same
operands; so decoding and encoding undo each other. -/

namespace Sys2Proof.Codec
open Sys2Proof.Machine Sys2Proof.History Sys2Proof.OperationMap

/-! The request word and the request record. -/

theorem infoCode_injective : Function.Injective InfoType.code :=
  Function.LeftInverse.injective InfoType.ofCode_code

theorem kindCode_injective : Function.Injective ChannelKind.code :=
  Function.LeftInverse.injective ChannelKind.ofCode_code

/-- Packing loses no field: the fields lie side by side (30_encoding.md R60). -/
theorem requestWord_injective : Function.Injective Request.word := by
  intro ⟨info, kind, len, b0, b1, b2, b3⟩ ⟨info', kind', len', c0, c1, c2, c3⟩ h
  simp only [Request.word] at h
  obtain ⟨h, hb3⟩ := append_eq_append_iff.mp h
  obtain ⟨h, hb2⟩ := append_eq_append_iff.mp h
  obtain ⟨h, hb1⟩ := append_eq_append_iff.mp h
  obtain ⟨h, hb0⟩ := append_eq_append_iff.mp h
  obtain ⟨h, hlen⟩ := append_eq_append_iff.mp h
  obtain ⟨hinfo, hkind⟩ := append_eq_append_iff.mp h
  rw [infoCode_injective hinfo, kindCode_injective hkind, hlen, hb0, hb1, hb2, hb3]

/-- Two neighbouring slices of a word are one slice. -/
theorem append_slices (w : RequestWord) (start len₁ len₂ : Nat) :
    w.extractLsb' (start + len₁) len₂ ++ w.extractLsb' start len₁ = w.extractLsb' start (len₂ + len₁) :=
  BitVec.extractLsb'_append_extractLsb'_eq_extractLsb' rfl

/-- The fields cover the word: packing the record of a word gives the word. -/
theorem word_requestOf (w : RequestWord) : (requestOf w).word = w := by
  simp only [Request.word, requestOf, InfoType.code_ofCode, ChannelKind.code_ofCode]
  rw [append_slices w 35 1 2, append_slices w 32 3 3, append_slices w 24 8 6, append_slices w 16 8 14,
    append_slices w 8 8 22, append_slices w 0 8 30, BitVec.extractLsb'_eq_self]

/-- Unpacking a packed record gives the record: both pack to one word. -/
theorem requestOf_word (r : Request) : requestOf r.word = r := requestWord_injective (word_requestOf r.word)

/-! The operation and its request record. -/

theorem wellFormed_decode (w : RequestWord) : (decode w).WellFormed := by
  have hlen : (decode w).frameLen = (w.extractLsb' 32 3).toNat := select_frameLen ..
  have hbits := (w.extractLsb' 32 3).isLt
  show (decode w).frameLen ≤ 7
  omega

/-- The decoder drops no field of the request record. -/
theorem request_decode (w : RequestWord) : (decode w).request = requestOf w := by
  simp [Instr.request, decode]

theorem encode_decode (w : RequestWord) : encode (decode w) = w := by
  rw [encode, request_decode, word_requestOf]

/-- The encoder keeps the low three bits of the length, which are all of a well-formed one (30_encoding.md R63). -/
theorem decode_encode {i : Instr} (h : i.WellFormed) : decode (encode i) = i := by
  have hlen : (BitVec.ofNat 3 i.frameLen).toNat = i.frameLen := by
    rw [BitVec.toNat_ofNat]
    exact Nat.mod_eq_of_lt (Nat.lt_succ_of_le h)
  calc decode (encode i)
      = select i.info i.kind (BitVec.ofNat 3 i.frameLen).toNat i.frame := by
        rw [decode, encode, requestOf_word, Instr.request]
    _ = i := by rw [hlen, select_self]

/-! The operation map. -/

/-- The row that an info type and a kind have in the operation map (30_encoding.md R65). -/
def rowOf (info : InfoType) (kind : ChannelKind) : OpRow :=
  ⟨info, kind, 0x3800000000, (info.code ++ kind.code) ++ 0#35⟩

theorem rowOf_mem_opTable (info : InfoType) (kind : ChannelKind) : rowOf info kind ∈ opTable := by
  cases info with
  | raw => cases kind <;> decide
  | scale => cases kind <;> decide
  | offset => cases kind <;> decide
  | reserved => cases kind <;> decide

theorem eq_rowOf_of_mem_opTable {row : OpRow} (h : row ∈ opTable) : row = rowOf row.info row.kind := by
  obtain ⟨hmask, hbits⟩ := opTable_row row h
  rw [rowOf, ← hmask, ← hbits]

/-- A word matches the row of its own operation and no other. -/
theorem row_matches_iff_eq_rowOf {w : RequestWord} {row : OpRow} :
    row ∈ opTable ∧ w &&& row.mask = row.bits ↔ row = rowOf (decode w).info (decode w).kind := by
  constructor
  · rintro ⟨hmem, hmatch⟩
    obtain ⟨hinfo, hkind⟩ := (row_matches_iff w hmem).mp hmatch
    rw [hinfo, hkind]
    exact eq_rowOf_of_mem_opTable hmem
  · rintro rfl
    have hmem := rowOf_mem_opTable (decode w).info (decode w).kind
    exact ⟨hmem, (row_matches_iff w hmem).mpr ⟨rfl, rfl⟩⟩

/-! The table decoder and the assembler. -/

theorem decodeTableWord_eq_some {nbits w : Nat} {i : Instr} (h : decodeTableWord nbits w = some i) :
    decode (BitVec.ofNat 38 (tableWord nbits w)) = i := by
  unfold decodeTableWord decodeBits at h
  split at h
  · exact Option.some.inj h
  · cases h

theorem wellFormed_assemble {line : AsmLine} (h : line.wellFormed = true) : (assemble line).WellFormed := by
  cases line with
  | rawH len bytes => exact (of_decide_eq_true h).1
  | rawT len bytes => exact (of_decide_eq_true h).1
  | scaleH | scaleT | offsetH | offsetT | rsvdH | rsvdT => exact Nat.zero_le 7

/-- The words of the lines without operands, bits [34:0] of which are 0 (30_encoding.md R74). -/
theorem encode_assemble_without_operands {line : AsmLine}
    (h : ∀ len bytes, line ≠ .rawH len bytes ∧ line ≠ .rawT len bytes) :
    (encode (assemble line)).extractLsb' 0 35 = 0 := by
  cases line with
  | rawH len bytes => exact absurd rfl (h len bytes).1
  | rawT len bytes => exact absurd rfl (h len bytes).2
  | scaleH | scaleT | offsetH | offsetT | rsvdH | rsvdT => decide

/-! The obligations. -/

/-- Settles O3: a well-formed operation's request record keeps its operands, and the word keeps the record's fields. -/
theorem decodeEncodeAgree : Obligations.DecodeEncodeAgree := fun _ h => decode_encode h

/-- Settles O4: the decoder keeps the record's fields, which cover the word. -/
theorem encodeDecodeAgree : Obligations.EncodeDecodeAgree := fun w => ⟨wellFormed_decode w, encode_decode w⟩

/-- Settles O6: the one row is that of the operation the word decodes to. -/
theorem everyWordMatchesOneRow : Obligations.EveryWordMatchesOneRow := fun w =>
  ⟨rowOf (decode w).info (decode w).kind, row_matches_iff_eq_rowOf.mpr rfl, fun _ => row_matches_iff_eq_rowOf.mp⟩

/-- Settles O7: the placed word is the first request, and the table's decoder agrees with the machine's on it. -/
theorem placedWordRunsNext : Obligations.PlacedWordRunsNext := by
  intro s nbits w i h
  rw [step_of_pending (State.withFetchWord_pending s nbits w), decodeTableWord_eq_some h]
  rfl

/-- Settles O50: an assembled line is well formed, so it is decoded from its own word. -/
theorem assembledLinesEncodable : Obligations.AssembledLinesEncodable := fun _ h =>
  ⟨decode_encode (wellFormed_assemble h), encode_assemble_without_operands⟩

/-- Settles O1: the first request is the one that a step decodes and runs. -/
theorem stepRunsDecodedRequest : Obligations.StepRunsDecodedRequest := fun _ _ _ h => step_of_pending h

/-- Settles O2: the eight words are computed. -/
theorem operationWordsDecode : Obligations.OperationWordsDecode := by
  unfold Obligations.OperationWordsDecode
  decide

end Sys2Proof.Codec
end

section
/-! Settles the statements about what the operations answer (40_decode_raw.md R85 to R87, 41_conversion.md R91, R96,
60_exceptions.md R116, 30_encoding.md R71). An operation's whole effect is one response, a function of the operation
alone; each statement is a fact about that response. -/

namespace Sys2Proof.Answers
open Sys2Proof.Machine Sys2Proof.OperationMap Sys2Proof.RawCounts Sys2Proof.Conversion

/-! The one effect of an operation. -/

/-- The response to an operation. -/
def answerOf : Instr → Response
  | .rawH len f => rawAnswer .humidity len (zext32 (rawCountHumidity f))
  | .rawT len f => rawAnswer .temperature len (zext32 (rawCountTemperature f))
  | .scaleH _ _ => .ok (.frac (zext32 (rom .humidity).num) (zext32 (rom .humidity).den))
  | .scaleT _ _ => .ok (.frac (zext32 (rom .temperature).num) (zext32 (rom .temperature).den))
  | .offsetT _ _ => .ok (.int (sext32 (rom .temperature).off))
  | .offsetH _ _ | .rsvdH _ _ | .rsvdT _ _ => .error .unsupportedInfoType

theorem exec_eq_answer (i : Instr) (s : State) : exec i s = .next (s.answer (answerOf i)) := by
  cases i with
  | rawH len f => exact exec_rawH len f s
  | rawT len f => exact exec_rawT len f s
  | scaleH len f => exact exec_select_scale .humidity len f s
  | scaleT len f => exact exec_select_scale .temperature len f s
  | offsetT len f => exact exec_offsetT len f s
  | offsetH len f => exact exec_select_of_not_legal (info := .offset) (kind := .humidity) rfl len f s
  | rsvdH len f => exact exec_select_of_not_legal (info := .reserved) (kind := .humidity) rfl len f s
  | rsvdT len f => exact exec_select_of_not_legal (info := .reserved) (kind := .temperature) rfl len f s

theorem exec_eq_next_iff {i : Instr} {s t : State} : exec i s = .next t ↔ t = s.answer (answerOf i) := by
  rw [exec_eq_answer, Host.Outcome.next.injEq, eq_comm]

theorem response_of_exec {i : Instr} {s t : State} {r : Response} (h : exec i s = .next t)
    (ht : t.response = some r) : answerOf i = r := by
  rw [exec_eq_next_iff] at h
  subst h
  exact Option.some.inj ht

theorem answerOf_of_raw {i : Instr} (h : i.info = .raw) :
    answerOf i = rawAnswer i.kind i.frameLen (zext32 (rawCount i.kind i.frame)) := by
  cases i with
  | rawH | rawT => rfl
  | scaleH | scaleT | offsetH | offsetT | rsvdH | rsvdT => cases h

theorem answerOf_of_scale {i : Instr} (h : i.info = .scale) :
    answerOf i = .ok (.frac (zext32 (rom i.kind).num) (zext32 (rom i.kind).den)) := by
  cases i with
  | scaleH | scaleT => rfl
  | rawH | rawT | offsetH | offsetT | rsvdH | rsvdT => cases h

/-- OFFSET answers the temperature offset or no result. -/
theorem answerOf_of_offset {i : Instr} {r : Result} (h : i.info = .offset) (hr : answerOf i = .ok r) :
    r = .int (sext32 (rom .temperature).off) := by
  cases i with
  | offsetH => cases hr
  | offsetT => exact (Response.ok.inj hr).symm
  | rawH | rawT | scaleH | scaleT | rsvdH | rsvdT => cases h

/-! The two errors. -/

theorem rawAnswer_eq_ok_iff {kind : ChannelKind} {len : Nat} {v : Word} {r : Result} :
    rawAnswer kind len v = .ok r ↔ len = (rom kind).len ∧ r = .int v := by
  by_cases hlen : len = (rom kind).len <;> simp [rawAnswer, hlen, eq_comm]

theorem rawAnswer_ne_unsupported (kind : ChannelKind) (len : Nat) (v : Word) :
    rawAnswer kind len v ≠ .error .unsupportedInfoType := by
  by_cases hlen : len = (rom kind).len <;> simp [rawAnswer, hlen]

/-- The gate of the descriptor table and the error UnsupportedInfoType are the same thing (41_conversion.md R96). -/
theorem answerOf_eq_unsupported_iff {i : Instr} :
    answerOf i = .error .unsupportedInfoType ↔ legal i.kind i.info = false := by
  cases i with
  | rawH | rawT => exact iff_of_false (rawAnswer_ne_unsupported _ _ _) Bool.true_eq_false.mp
  | scaleH | scaleT | offsetT => exact iff_of_false nofun Bool.true_eq_false.mp
  | offsetH | rsvdH | rsvdT => exact iff_of_true rfl rfl

theorem legal_raw (kind : ChannelKind) : legal kind .raw = true := by
  cases kind <;> rfl

theorem legal_eq_false_iff (kind : ChannelKind) (info : InfoType) :
    legal kind info = false ↔ (info = .offset ∧ kind = .humidity) ∨ info = .reserved := by
  cases kind with
  | humidity => cases info <;> decide
  | temperature => cases info <;> decide

theorem legal_eq_true_iff (kind : ChannelKind) (info : InfoType) :
    legal kind info = true ↔ info = .raw ∨ info = .scale ∨ (info = .offset ∧ kind = .temperature) := by
  cases kind with
  | humidity => cases info <;> decide
  | temperature => cases info <;> decide

/-- The size check belongs to the RAW operations (40_decode_raw.md R80). -/
theorem info_of_answerOf_eq_sizeMismatch {i : Instr} (h : answerOf i = .error .sizeMismatch) : i.info = .raw := by
  cases i with
  | rawH | rawT => rfl
  | scaleH | scaleT | offsetH | offsetT | rsvdH | rsvdT => cases h

/-! What a result can be. -/

theorem rawCount_le (kind : ChannelKind) (f : Frame) : rawCount kind f ≤ 0x3FFF := by
  cases kind with
  | humidity => exact rawCountHumidity_le f
  | temperature => exact rawCountTemperature_le f

theorem zext32_rawCount_toNat (kind : ChannelKind) (f : Frame) :
    (zext32 (rawCount kind f)).toNat = rawCount kind f :=
  zext32_toNat (Nat.lt_of_le_of_lt (rawCount_le kind f) (by decide))

theorem legalResponse_rawAnswer (kind : ChannelKind) (len : Nat) (f : Frame) :
    LegalResponse (rawAnswer kind len (zext32 (rawCount kind f))) := by
  unfold rawAnswer
  split
  · exact .inl ((zext32_rawCount_toNat kind f).trans_le (rawCount_le kind f))
  · trivial

/-- No operation answers what the block cannot produce. -/
theorem legalResponse_answerOf (i : Instr) : LegalResponse (answerOf i) := by
  cases i with
  | rawH len f => exact legalResponse_rawAnswer .humidity len f
  | rawT len f => exact legalResponse_rawAnswer .temperature len f
  | scaleH => exact ⟨rfl, .inl rfl⟩
  | scaleT => exact ⟨rfl, .inr rfl⟩
  | offsetT => exact .inr offsetWord_toInt
  | offsetH | rsvdH | rsvdT => trivial

/-- The range of a response's values (30_encoding.md R71). -/
def InValueRange (v : Word) : Prop := -40 ≤ v.toInt ∧ v.toInt ≤ 16384

theorem inValueRange_of_toNat_le {v : Word} (h : v.toNat ≤ 16384) : InValueRange v := by
  have hint : v.toInt = v.toNat := BitVec.toInt_eq_toNat_of_lt (by omega)
  unfold InValueRange
  omega

theorem inValueRange_of_legalResponse {r : Result} (h : LegalResponse (.ok r)) :
    InValueRange (valField r) ∧ InValueRange (val2Field r) := by
  cases r with
  | int v =>
    refine ⟨?val, inValueRange_of_toNat_le (v := 0) (by decide)⟩
    obtain hcount | hoffset := h
    · exact inValueRange_of_toNat_le (Nat.le_trans hcount (by decide))
    · exact ⟨hoffset.ge, hoffset.trans_le (by decide)⟩
  | frac n d =>
    obtain ⟨hnum, hden⟩ := h
    exact ⟨inValueRange_of_toNat_le (v := n) (by omega), inValueRange_of_toNat_le (v := d) (by omega)⟩

/-- A count of 14 bits leaves bits [31:14] zero. -/
theorem extractLsb'_zext32_rawCount (kind : ChannelKind) (f : Frame) :
    (zext32 (rawCount kind f)).extractLsb' 14 18 = 0 := by
  have hle := rawCount_le kind f
  have hhigh : rawCount kind f / 2 ^ 14 = 0 := Nat.div_eq_of_lt (by omega)
  apply BitVec.eq_of_toNat_eq
  rw [BitVec.extractLsb'_toNat, zext32_rawCount_toNat, Nat.shiftRight_eq_div_pow, hhigh]
  rfl

theorem rawCount_eq_ite (kind : ChannelKind) (f : Frame) :
    rawCount kind f = if kind = .humidity then rawCountHumidity f else rawCountTemperature f := by
  cases kind <;> rfl

/-! Which bits of a frame a raw count is made of. -/

theorem getLsbD_append_low {n m i : Nat} (hi : BitVec n) (lo : BitVec m) (h : i < m) :
    (hi ++ lo).getLsbD i = lo.getLsbD i := by
  rw [BitVec.getLsbD_append, if_pos h]

theorem getLsbD_append_high {n m : Nat} (hi : BitVec n) (lo : BitVec m) (i : Nat) :
    (hi ++ lo).getLsbD (i + m) = hi.getLsbD i := by
  rw [BitVec.getLsbD_append, if_neg (Nat.not_lt.mpr (Nat.le_add_left m i)), Nat.add_sub_cancel]

theorem getLsbD_slice {n start len i : Nat} (x : BitVec n) (h : i < len) :
    (x.extractLsb' start len).getLsbD i = x.getLsbD (i + start) := by
  rw [BitVec.getLsbD_extractLsb', decide_eq_true h, Bool.true_and, Nat.add_comm]

theorem exec_rawH_slices (f : Frame) (s : State) : exec (.rawH 2 f) s =
    .next { s with response := some (.ok (.int ((f.b0.extractLsb' 0 6 ++ f.b1).setWidth 32))) } := by
  rw [← BitVec.ofNat_toNat]
  exact exec_rawH_two s (rawCountHumidity_eq_slices f)

theorem exec_rawT_slices (f : Frame) (s : State) : exec (.rawT 4 f) s =
    .next { s with response := some (.ok (.int ((f.b2 ++ f.b3.extractLsb' 2 6).setWidth 32))) } := by
  rw [← BitVec.ofNat_toNat]
  exact exec_rawT_four s (rawCountTemperature_eq_slices f)

/-- A frame of either kind whose raw count is the given one. -/
def frameOfCount : ChannelKind → BitVec 14 → Frame
  | .humidity, v => ⟨0#2 ++ v.extractLsb' 8 6, v.extractLsb' 0 8, 0, 0⟩
  | .temperature, v => ⟨0, 0, v.extractLsb' 6 8, v.extractLsb' 0 6 ++ 0#2⟩

theorem rawCount_frameOfCount (kind : ChannelKind) (v : BitVec 14) : rawCount kind (frameOfCount kind v) = v.toNat := by
  cases kind with
  | humidity =>
    have hslices : v.extractLsb' 8 6 ++ v.extractLsb' 0 8 = v :=
      BitVec.extractLsb'_append_extractLsb' (w := 6) (len := 8)
    calc rawCountHumidity (frameOfCount .humidity v)
        = ((0#2 ++ v.extractLsb' 8 6).extractLsb' 0 6 ++ v.extractLsb' 0 8).toNat := rawCountHumidity_eq_slices _
      _ = v.toNat := by rw [BitVec.extractLsb'_append_eq_right, hslices]
  | temperature =>
    have hslices : v.extractLsb' 6 8 ++ v.extractLsb' 0 6 = v :=
      BitVec.extractLsb'_append_extractLsb' (w := 8) (len := 6)
    calc rawCountTemperature (frameOfCount .temperature v)
        = (v.extractLsb' 6 8 ++ (v.extractLsb' 0 6 ++ 0#2).extractLsb' 2 6).toNat := rawCountTemperature_eq_slices _
      _ = v.toNat := by rw [BitVec.extractLsb'_append_eq_left, hslices]

/-- The bytes that a raw count is made of lie inside a frame of its kind's length (40_decode_raw.md R81, R82). -/
theorem rawCount_congr {kind : ChannelKind} {f g : Frame}
    (h : ∀ i : Fin 4, i.val < (rom kind).len → frameByte f i = frameByte g i) : rawCount kind f = rawCount kind g := by
  cases kind with
  | humidity =>
    show rawCountHumidity f = rawCountHumidity g
    rw [rawCountHumidity, h 0 (by decide), h 1 (by decide), rawCountHumidity]
  | temperature =>
    show rawCountTemperature f = rawCountTemperature g
    rw [rawCountTemperature, h 2 (by decide), h 3 (by decide), rawCountTemperature]

/-- A request of another length than its kind's reads no byte. -/
theorem rawAnswer_congr {kind : ChannelKind} {len : Nat} {f g : Frame}
    (h : ∀ i : Fin 4, i.val < len → frameByte f i = frameByte g i) :
    rawAnswer kind len (zext32 (rawCount kind f)) = rawAnswer kind len (zext32 (rawCount kind g)) := by
  by_cases hlen : len = (rom kind).len
  · rw [rawCount_congr (hlen ▸ h)]
  · rw [rawAnswer, if_neg hlen, rawAnswer, if_neg hlen]

/-! The obligations. -/

/-- Settles O10: each count is the one that the model's operand gives. -/
theorem rawOperationsComplete : Obligations.RawOperationsComplete := fun s _ =>
  ⟨exec_rawH_two s rfl, exec_rawT_four s rfl⟩

/-- Settles O14: both counts are two slices beside each other, and the bits of those are bits of the bytes. -/
theorem rawBitMap : Obligations.RawBitMap := by
  intro f s
  refine ⟨_, _, exec_rawH_slices f s, exec_rawT_slices f s, rfl, rfl, ?_, ?_, ?_, ?_⟩
  · exact fun i hi => getLsbD_append_low _ _ hi
  · exact fun i hi => (getLsbD_append_high _ _ i).trans (getLsbD_slice _ hi)
  · exact fun i hi => (getLsbD_append_low _ _ hi).trans (getLsbD_slice _ hi)
  · exact fun i _ => getLsbD_append_high _ _ i

/-- Settles O15: a count is bounded by its 14 bits, and each number of 14 bits can be laid out as a frame. -/
theorem rawCountsAreTheFourteenBitNumbers : Obligations.RawCountsAreTheFourteenBitNumbers := by
  refine ⟨fun kind len f s t r hexec hr => ?bounded, fun n s hn => ?onto⟩
  case bounded =>
    have hanswer := response_of_exec hexec hr
    rw [answerOf_of_raw (select_info ..), select_kind, select_frameLen, select_frame] at hanswer
    obtain ⟨_, rfl⟩ := rawAnswer_eq_ok_iff.mp hanswer
    exact ⟨_, rfl, (zext32_rawCount_toNat kind f).trans_le (rawCount_le kind f)⟩
  case onto =>
    have hcount (kind : ChannelKind) : rawCount kind (frameOfCount kind (BitVec.ofNat 14 n)) = n := by
      rw [rawCount_frameOfCount, BitVec.toNat_ofNat]
      exact Nat.mod_eq_of_lt (Nat.lt_succ_of_le hn)
    exact ⟨⟨_, exec_rawH_two s (hcount .humidity)⟩, ⟨_, exec_rawT_four s (hcount .temperature)⟩⟩

/-- Settles O16: the other two bytes are no operand of the count. -/
theorem rawIgnoresOtherBytes : Obligations.RawIgnoresOtherBytes := by
  intro s len b0 b1 b2 b3 c0 c1 c2 c3
  constructor
  · rw [exec_rawH, exec_rawH]
    rfl
  · rw [exec_rawT, exec_rawT]
    rfl

/-- Settles O17: a RAW operation reads bytes of the frame or fails its size check; the others read no byte. -/
theorem bytesOutsideFrameIgnored : Obligations.BytesOutsideFrameIgnored := by
  intro info kind len f g s h
  cases info with
  | raw => rw [exec_select_raw, exec_select_raw, rawAnswer_congr h]
  | scale => rw [exec_select_scale, exec_select_scale]
  | offset => cases kind <;> rfl
  | reserved => cases kind <;> rfl

/-- Settles O19: SCALE.T answers the ROM's pair whatever the length and the frame. -/
theorem scaleTemperatureWords : Obligations.ScaleTemperatureWords := by
  refine ⟨fun s w rest hs hmatch => ?answer, ⟨?num, ?den⟩, ?prime, ?lowest, ?meaning⟩
  case answer => exact step_of_row_answers hs (by decide) hmatch (exec_select_scale .temperature)
  case num => exact zext32_toInt (n := 100) (by decide)
  case den => exact zext32_toInt (n := 9929) (by decide)
  case prime => norm_num
  case lowest => norm_num
  case meaning =>
    rw [phys_temperature]
    norm_num [rom]

/-- Settles O23: each of the six answers the same for every length and frame. -/
theorem conversionOperationsComplete : Obligations.ConversionOperationsComplete := fun s len f =>
  ⟨exec_eq_answer (.scaleH len f) s, exec_eq_answer (.scaleT len f) s, exec_eq_answer (.offsetT len f) s,
    exec_eq_answer (.offsetH len f) s, exec_eq_answer (.rsvdH len f) s, exec_eq_answer (.rsvdT len f) s⟩

/-- Settles O24: no operation behind the gate answers UnsupportedInfoType. -/
theorem gateAnswersUnsupported : Obligations.GateAnswersUnsupported := by
  intro info kind len f s
  refine ⟨?_, legal_eq_false_iff kind info⟩
  have hgate := answerOf_eq_unsupported_iff (i := select info kind len f)
  rw [select_kind, select_info] at hgate
  rw [exec_eq_answer, ← hgate]
  exact next_answer_inj

/-- Settles O25: the descriptor table allows RAW for both kinds, and only RAW checks the length. -/
theorem atMostOneErrorApplies : Obligations.AtMostOneErrorApplies := by
  refine fun i s t hexec => ⟨fun ht hraw => ?unsupported, fun ht => ?size⟩
  case unsupported =>
    have hlegal := answerOf_eq_unsupported_iff.mp (response_of_exec hexec ht)
    rw [hraw, legal_raw] at hlegal
    cases hlegal
  case size => exact info_of_answerOf_eq_sizeMismatch (response_of_exec hexec ht)

/-- Settles O26: answering is the one effect. -/
theorem operationFrame : Obligations.OperationFrame := by
  intro i s t h
  obtain rfl := exec_eq_next_iff.mp h
  exact ⟨rfl, _, rfl⟩

/-- Settles O40: the ranges are those of a legal response; the contents are read off each info type's answer. -/
theorem responseValues : Obligations.ResponseValues := by
  intro i s t r hexec ht
  have hanswer : answerOf i = .ok r := response_of_exec hexec ht
  obtain ⟨hval, hval2⟩ := inValueRange_of_legalResponse (hanswer ▸ legalResponse_answerOf i)
  refine ⟨hval, hval2, fun hinfo => ?raw, fun hinfo => ?offset, fun hinfo => ?scale⟩
  case raw =>
    rw [answerOf_of_raw hinfo] at hanswer
    obtain ⟨_, rfl⟩ := rawAnswer_eq_ok_iff.mp hanswer
    refine ⟨rfl, rfl, extractLsb'_zext32_rawCount i.kind i.frame, ?_⟩
    rw [← rawCount_eq_ite]
    rfl
  case offset =>
    obtain rfl := answerOf_of_offset hinfo hanswer
    exact ⟨rfl, offsetWord_toInt, rfl⟩
  case scale =>
    rw [answerOf_of_scale hinfo] at hanswer
    obtain rfl := Response.ok.inj hanswer
    cases i.kind with
    | humidity => exact ⟨rfl, rfl⟩
    | temperature => exact ⟨rfl, rfl⟩

/-- Settles O49: a truthful length that is not the kind's fails the size check. -/
theorem shortReadRejected : Obligations.ShortReadRejected := by
  rintro kind delivered len f s ⟨rfl, _⟩ hlen
  rw [exec_select_raw, rawAnswer_eq_sizeMismatch_iff.mpr hlen]
  rfl

end Sys2Proof.Answers
end

section
/-! Settles the statements about steps and runs (10_state.md R20, R22, R29, R34, 30_encoding.md R76, 70_reset_and_hazards.md
R130). A step answers its request with the response that the spec's `Respond` gives, whatever the state; so the answers of
a run are that function mapped over the requests. -/

namespace Sys2Proof.Runs
open Sys2Proof.Machine Sys2Proof.History Sys2Proof.OperationMap Sys2Proof.RawCounts Sys2Proof.Answers

/-! The dispatch written a second time. -/

/-- A slice of a slice of a word is a slice of the word. -/
theorem extractLsb'_slice {n start len start' len' : Nat} (x : BitVec n) (h : start' + len' ≤ len) :
    (x.extractLsb' start len).extractLsb' start' len' = x.extractLsb' (start' + start) len' := by
  apply BitVec.eq_of_getLsbD_eq
  intro i hi
  rw [getLsbD_slice _ hi, getLsbD_slice _ (by omega), getLsbD_slice _ hi, Nat.add_assoc]

/-- The bits of a request word that a raw count is made of (40_decode_raw.md R85). -/
theorem zext32_rawCountHumidity_requestOf (w : RequestWord) :
    zext32 (rawCountHumidity (requestOf w).frame) = (w.extractLsb' 24 6 ++ w.extractLsb' 16 8).setWidth 32 := by
  have hhigh : (requestOf w).frame.b0.extractLsb' 0 6 = w.extractLsb' 24 6 := extractLsb'_slice w (by decide)
  rw [rawCountHumidity_eq_slices, hhigh, zext32, BitVec.ofNat_toNat]
  rfl

theorem zext32_rawCountTemperature_requestOf (w : RequestWord) :
    zext32 (rawCountTemperature (requestOf w).frame) = (w.extractLsb' 8 8 ++ w.extractLsb' 2 6).setWidth 32 := by
  have hlow : (requestOf w).frame.b3.extractLsb' 2 6 = w.extractLsb' 2 6 := extractLsb'_slice w (by decide)
  rw [rawCountTemperature_eq_slices, hlow, zext32, BitVec.ofNat_toNat]
  rfl

/-- `Respond` branch by branch: one case for each pair of codes that the selection bits can hold. -/
theorem respond_of_codes {w : RequestWord} {info : InfoType} {kind : ChannelKind}
    (hinfo : w.extractLsb' 36 2 = info.code) (hkind : w.extractLsb' 35 1 = kind.code) :
    respond w = answerOf (select info kind (w.extractLsb' 32 3).toNat (requestOf w).frame) := by
  unfold respond
  rw [hinfo, hkind]
  cases info with
  | raw =>
    cases kind with
    | humidity =>
      show _ = rawAnswer _ _ _
      rw [rawAnswer_toNat, zext32_rawCountHumidity_requestOf]
      exact ite_not ..
    | temperature =>
      show _ = rawAnswer _ _ _
      rw [rawAnswer_toNat, zext32_rawCountTemperature_requestOf]
      exact ite_not ..
  | scale => cases kind <;> rfl
  | offset => cases kind <;> rfl
  | reserved => cases kind <;> rfl

theorem respond_eq_answerOf_decode (w : RequestWord) : respond w = answerOf (decode w) :=
  respond_of_codes (InfoType.code_ofCode _).symm (ChannelKind.code_ofCode _).symm

/-! What a step can do. -/

theorem step_of_pending_cons {s : State} {w : RequestWord} {rest : List RequestWord} (h : s.pending = w :: rest) :
    step s = .next { pending := rest, response := some (respond w) } := by
  rw [step_of_pending h, exec_eq_answer, ← respond_eq_answerOf_decode]
  rfl

theorem step_of_pending_nil {s : State} (h : s.pending = []) : step s = .next { pending := [], response := none } := by
  obtain ⟨_, response⟩ := s
  subst h
  rfl

/-- A step reads the requests presented and nothing else of the state. -/
theorem step_congr {s s' : State} (h : s.pending = s'.pending) : step s = step s' := by
  cases hp : s'.pending with
  | nil => rw [step_of_pending_nil (h.trans hp), step_of_pending_nil hp]
  | cons w rest => rw [step_of_pending_cons (h.trans hp), step_of_pending_cons hp]

theorem transcript_congr {s s' : State} (k : Nat) (h : s.pending = s'.pending) : transcript k s = transcript k s' := by
  cases k with
  | zero => rfl
  | succ k => rw [transcript, transcript, step_congr h]

/-- Whatever a step leaves in the response record, the block can produce it. -/
theorem inv_of_step {s t : State} (h : step s = .next t) : t.Inv := by
  intro r hr
  cases hp : s.pending with
  | nil =>
    rw [step_of_pending_nil hp] at h
    cases h
    cases hr
  | cons w rest =>
    rw [step_of_pending_cons hp] at h
    cases h
    obtain rfl := Option.some.inj hr
    rw [respond_eq_answerOf_decode]
    exact legalResponse_answerOf (decode w)

/-! What a run answers. -/

theorem transcript_pending_cons (k : Nat) (w : RequestWord) (rest : List RequestWord) (before : Option Response) :
    transcript (k + 1) { pending := w :: rest, response := before } =
      respond w :: transcript k { pending := rest, response := some (respond w) } :=
  transcript_succ_of_step k (step_of_pending_cons rfl)

theorem transcript_eq_map (ws rest : List RequestWord) (before : Option Response) :
    transcript ws.length { pending := ws ++ rest, response := before } = ws.map respond := by
  induction ws generalizing before with
  | nil => rfl
  | cons w ws ih => rw [List.length_cons, List.cons_append, transcript_pending_cons, ih, List.map_cons]

theorem transcript_all (ws : List RequestWord) (before : Option Response) :
    transcript ws.length { pending := ws, response := before } = ws.map respond := by
  simpa using transcript_eq_map ws [] before

theorem run_succ_of_step {s t : State} (k : Nat) (h : step s = .next t) :
    Sys2Proof.core.run (k + 1) s = Sys2Proof.core.run k t := by
  have hcore : Sys2Proof.core.step s = .next t := h
  simp only [Host.Core.run, hcore]

theorem run_eq_last_answer (ws rest : List RequestWord) (before : Option Response) :
    Sys2Proof.core.run ws.length ({ pending := ws ++ rest, response := before } : State) =
      .next ({ pending := rest, response := ((ws.map respond).getLast?).or before } : State) := by
  induction ws generalizing before with
  | nil => rfl
  | cons w ws ih =>
    have hlast : ((ws.map respond).getLast?).or (some (respond w)) = (((w :: ws).map respond).getLast?).or before := by
      rw [List.map_cons, List.getLast?_cons]
      cases (ws.map respond).getLast? <;> rfl
    rw [← hlast]
    exact (run_succ_of_step ws.length (step_of_pending_cons rfl)).trans (ih (some (respond w)))

/-- Each request beside the response it gets. -/
theorem zip_transcript (ws : List RequestWord) (before : Option Response) :
    ws.zip (transcript ws.length { pending := ws, response := before }) = ws.map fun w => (w, respond w) := by
  rw [transcript_all, ← List.zip_map', List.map_id']

/-! The obligations. -/

/-- Settles O35: what a step leaves in the response record is nothing or an operation's answer. -/
theorem stepKeepsLegalResponse : Obligations.StepKeepsLegalResponse := fun _ _ _ h => inv_of_step h

/-- Settles O36: after reset the response record holds no value. -/
theorem resetHoldsInvariant : Obligations.ResetHoldsInvariant := by
  intro r hr
  rw [State.reset_response] at hr
  cases hr

/-- Settles O30: the operation that the decoder selects answers what `Respond` reads from the word's bits. -/
theorem stepRefinesRespond : Obligations.StepRefinesRespond := fun _ _ _ h => step_of_pending_cons h

/-- Settles O27: the step from a first request is one equation. -/
theorem stepFrame : Obligations.StepFrame := by
  intro s h
  obtain ⟨w, rest, hp⟩ := List.exists_cons_of_ne_nil h
  rw [step_of_pending_cons hp, hp]
  exact ⟨respond w, rfl⟩

/-- Settles O28: with a request and without one, the step has an equation that goes on. -/
theorem stepAlwaysGoesOn : Obligations.StepAlwaysGoesOn := by
  intro s
  cases hp : s.pending with
  | nil => exact ⟨_, step_of_pending_nil hp⟩
  | cons w rest => exact ⟨_, step_of_pending_cons hp⟩

/-- Settles O29: the step without a request is one equation. -/
theorem idleStepHoldsNoResponse : Obligations.IdleStepHoldsNoResponse := fun _ => step_of_pending_nil

/-- Settles O32, by induction on the requests, for the answers and for the state the run ends in. -/
theorem requestsAnsweredInOrder : Obligations.RequestsAnsweredInOrder := fun ws rest before =>
  ⟨transcript_eq_map ws rest before, run_eq_last_answer ws rest before⟩

/-- Settles O33: each request stands beside `Respond` of it, in any order. -/
theorem orderChangesNoResponse : Obligations.OrderChangesNoResponse := by
  intro ws ws' before before' hperm
  rw [zip_transcript, zip_transcript]
  refine ⟨hperm.map _, fun w r hmem => ?alone⟩
  case alone =>
    obtain ⟨_, _, hpair⟩ := List.mem_map.mp hmem
    obtain ⟨rfl, rfl⟩ := Prod.mk.inj hpair
    exact transcript_all [_] none

/-- Settles O34: both answers are `Respond` of the one request. -/
theorem requestsAreIdempotent : Obligations.RequestsAreIdempotent := fun w before =>
  ⟨respond w, transcript_all [w, w] before⟩

/-- Settles O38: a reinitialisation changes the response record alone, which no step reads. -/
theorem reinitialiseChangesNoAnswer : Obligations.ReinitialiseChangesNoAnswer := fun s k =>
  ⟨s.reinitialise_response, transcript_congr k s.reinitialise_pending⟩

/-- Settles O37: the reset record and the tables are the ones written out. -/
theorem resetState : Obligations.ResetState := ⟨rfl, rfl, rfl, rfl, legal_eq_true_iff⟩

/-- Settles O39, by the two cases of the response record. -/
theorem readingResponse : Obligations.ReadingResponse := by
  intro s
  cases hr : s.response with
  | none =>
    have hread : s.readResponse = .fault .noResponse := by rw [State.readResponse, hr]
    simp [hread]
  | some r =>
    have hread : s.readResponse = .next r := by rw [State.readResponse, hr]
    simp [hread]

end Sys2Proof.Runs
end

section
/-! Settles the statements about the packed response word (30_encoding.md R68 to R70). A word is its four slices beside
each other, so it carries the fields it was packed from and no others. -/

namespace Sys2Proof.ResponseWords
open Sys2Proof.Machine Sys2Proof.ErrorCodes

/-! The fields of the word of a result. -/

theorem responseWord_rtype (noValue : ResponseWord) (res : Result) :
    (responseWord noValue (.ok res)).extractLsb' 66 1 = rtypeCode res := by
  have hparts : responseWord noValue (.ok res) =
      rtypeCode res ++ (errCode (.ok res) ++ val2Field res ++ valField res) := by
    simp only [responseWord, BitVec.append_assoc, BitVec.cast_eq]
  rw [hparts]
  exact BitVec.extractLsb'_append_eq_left

theorem responseWord_val2 (noValue : ResponseWord) (res : Result) :
    (responseWord noValue (.ok res)).extractLsb' 32 32 = val2Field res :=
  extractLsb'_append_append_middle ..

theorem responseWord_val (noValue : ResponseWord) (res : Result) :
    (responseWord noValue (.ok res)).extractLsb' 0 32 = valField res :=
  BitVec.extractLsb'_append_eq_right

/-- The value bits give back the result: `rtype` tells the two forms apart, and `val2` of an INT is 0. -/
theorem resultOfWord_responseWord (noValue : ResponseWord) (res : Result) :
    resultOfWord (responseWord noValue (.ok res)) = .next res := by
  rw [resultOfWord, responseWord_rtype, responseWord_val2, responseWord_val]
  cases res with
  | int v => rfl
  | frac n d => rfl

/-! The words of an error. -/

/-- A word is its bit 66, its bits [65:64] and its bits [63:0]. -/
theorem responseWord_slices (w : ResponseWord) :
    w.extractLsb' 66 1 ++ w.extractLsb' 64 2 ++ w.extractLsb' 0 64 = w := by
  have hhigh : w.extractLsb' 66 1 ++ w.extractLsb' 64 2 = w.extractLsb' 64 3 :=
    BitVec.extractLsb'_append_extractLsb'_eq_extractLsb' rfl
  rw [hhigh]
  exact BitVec.extractLsb'_append_extractLsb' (w := 3) (len := 64)

/-- A word with an error's code is the word of that error whose other bits are its own. -/
theorem responseWord_error_self {e : DecodeError} {w : ResponseWord} (h : w.extractLsb' 64 2 = errCode (.error e)) :
    responseWord w (.error e) = w := by
  rw [responseWord, ← h, responseWord_slices]

/-! The obligations. -/

/-- Settles O41: of each form of response the three reads are computed. -/
theorem errorCarriesNoValue : Obligations.ErrorCarriesNoValue :=
  ⟨fun _ => ⟨rfl, rfl, rfl⟩, fun _ => ⟨rfl, rfl, rfl⟩, fun _ _ => ⟨rfl, rfl, rfl⟩, errCode_sizeMismatch,
    errCode_unsupportedInfoType⟩

/-- Settles O42: the fields of a result are slices of its word, and an error's word is free outside its code. -/
theorem responseWordFields : Obligations.ResponseWordFields := by
  refine ⟨fun noValue res => ?result, fun e w => ⟨?code, fun h => ⟨w, responseWord_error_self h⟩⟩⟩
  case result =>
    exact ⟨responseWord_rtype noValue res, responseWord_err noValue (.ok res), responseWord_val2 noValue res,
      responseWord_val noValue res⟩
  case code =>
    rintro ⟨noValue, rfl⟩
    exact responseWord_err noValue (.error e)

/-- Settles O43: `err` tells a result from each error, and the value bits of a result give it back. -/
theorem responseWordReadsBack : Obligations.ResponseWordReadsBack := by
  intro noValue r
  have herr := responseWord_err noValue r
  match r with
  | .ok res =>
    rw [errCode_ok] at herr
    simp [readResponseWord, herr, resultOfWord_responseWord]
  | .error .sizeMismatch => exact readResponseWord_of_err_one herr
  | .error .unsupportedInfoType => exact readResponseWord_of_err_two herr

end Sys2Proof.ResponseWords
end

section
/-! Settles the statements about the physical values (41_conversion.md R97 to R99) and the two readings end to end
(30_encoding.md R75). A further count adds one step of the kind's resolution, so PHYS increases and its bounds are its
values at the boundary counts; a reading's requests are answered as the assembled operations are, and those answers
compose to PHYS of the count. -/

namespace Sys2Proof.PhysicalValues
open Sys2Proof.Machine Sys2Proof.RawCounts Sys2Proof.Conversion Sys2Proof.Codec Sys2Proof.Answers Sys2Proof.Runs

/-! The order of the physical values. -/

theorem phys_succ_sub (kind : ChannelKind) (raw : Nat) :
    phys kind (raw + 1) - phys kind raw = ((rom kind).num : ℚ) / ((rom kind).den : ℚ) := by
  unfold phys
  push_cast
  ring

theorem resolution_pos (kind : ChannelKind) : (0 : ℚ) < ((rom kind).num : ℚ) / ((rom kind).den : ℚ) := by
  cases kind with
  | humidity => norm_num [rom]
  | temperature => norm_num [rom]

theorem phys_strictMono (kind : ChannelKind) : StrictMono (phys kind) :=
  strictMono_nat_of_lt_succ fun raw => sub_pos.mp ((phys_succ_sub kind raw).symm ▸ resolution_pos kind)

theorem phys_humidity_16384 : phys .humidity 16384 = 100 := by
  rw [phys_humidity]
  norm_num

theorem phys_humidity_lt_hundred {raw : Nat} (h : raw ≤ 16383) : phys .humidity raw < 100 := by
  rw [← phys_humidity_16384]
  exact phys_strictMono .humidity (Nat.lt_succ_of_le h)

theorem phys_humidity_eq_hundred_iff (raw : Nat) : phys .humidity raw = 100 ↔ raw = 16384 := by
  rw [← phys_humidity_16384]
  exact (phys_strictMono .humidity).injective.eq_iff

theorem phys_temperature_3971 : phys .temperature 3971 = -60 / 9929 := by
  rw [phys_temperature]
  norm_num

theorem phys_temperature_3972 : phys .temperature 3972 = 40 / 9929 := by
  rw [phys_temperature]
  norm_num

/-- The sign changes between two neighbouring counts. -/
theorem phys_temperature_neg_iff (raw : Nat) : phys .temperature raw < 0 ↔ raw ≤ 3971 := by
  constructor
  · intro hneg
    have hlt : phys .temperature raw < phys .temperature 3972 := by
      rw [phys_temperature_3972]
      exact hneg.trans (by norm_num)
    exact Nat.le_of_lt_succ ((phys_strictMono .temperature).lt_iff_lt.mp hlt)
  · intro hle
    have hbound := (phys_strictMono .temperature).monotone hle
    rw [phys_temperature_3971] at hbound
    exact hbound.trans_lt (by norm_num)

/-! The answers of an assembled program. -/

/-- A program of well-formed lines is answered line by line, as the lines' operations are, and what is pending after it
makes no difference. -/
theorem transcript_assembleProgram {items : List AsmItem} (rest : List RequestWord) (before : Option Response)
    (h : ∀ line ∈ items.flatMap expand, (assemble line).WellFormed) :
    transcript (items.flatMap expand).length { pending := assembleProgram items ++ rest, response := before } =
      (items.flatMap expand).map fun line => answerOf (assemble line) := by
  have hrun := transcript_eq_map (assembleProgram items) rest before
  rw [assembleProgram, List.length_map, List.map_map] at hrun
  refine hrun.trans (List.map_congr_left fun line hline => ?_)
  rw [Function.comp_apply, respond_eq_answerOf_decode, decode_encode (h line hline)]

/-! What the requester composes. -/

/-- The responses of a humidity reading compose to PHYS: the offset term is 0 (41_conversion.md R94). -/
theorem composeReading_humidity (f : Frame) :
    composeReading (answerOf (.rawH 2 f)) (answerOf (assemble .scaleH)) none =
      some (phys .humidity (rawCountHumidity f)) := by
  have hraw : answerOf (.rawH 2 f) = .ok (.int (zext32 (rawCountHumidity f))) := rfl
  have hscale : answerOf (assemble .scaleH) = .ok (.frac (zext32 100) (zext32 16384)) := rfl
  have hcount := rawCountHumidity_le f
  rw [hraw, hscale, composeReading, zext32_toInt (by omega), zext32_toInt (by decide), zext32_toInt (by decide)]
  norm_num [phys, rom]

/-- The responses of a temperature reading compose to PHYS. -/
theorem composeReading_temperature (f : Frame) :
    composeReading (answerOf (.rawT 4 f)) (answerOf (assemble .scaleT)) (some (answerOf (assemble .offsetT))) =
      some (phys .temperature (rawCountTemperature f)) := by
  have hraw : answerOf (.rawT 4 f) = .ok (.int (zext32 (rawCountTemperature f))) := rfl
  have hscale : answerOf (assemble .scaleT) = .ok (.frac (zext32 100) (zext32 9929)) := rfl
  have hoffset : answerOf (assemble .offsetT) = .ok (.int (sext32 (-40))) := rfl
  have hcount := rawCountTemperature_le f
  rw [hraw, hscale, hoffset, composeReading, zext32_toInt (by omega), zext32_toInt (by decide),
    zext32_toInt (by decide), sext32_toInt (by decide) (by decide)]
  norm_num [phys, rom]

/-! The obligations. -/

/-- Settles O46: the values at the boundary counts are computed, and between them PHYS increases. -/
theorem physicalValueRanges : Obligations.PhysicalValueRanges := by
  refine ⟨⟨?zeroH, ?maxH, fun raw => ?countH⟩, ⟨?zeroT, ?maxT, fun raw => ?countT⟩, phys_strictMono,
    fun _ => phys_humidity_lt_hundred, phys_humidity_eq_hundred_iff, ?above125, phys_temperature_3971,
    phys_temperature_3972, phys_temperature_neg_iff⟩
  case countH | countT =>
    rw [phys_succ_sub]
    norm_num [rom]
  case zeroH | maxH =>
    rw [phys_humidity]
    norm_num
  case zeroT | maxT | above125 =>
    rw [phys_temperature]
    norm_num

/-- Settles O47: the two requests are answered as their operations are, and the answers compose to PHYS of the count,
which is two slices of the bytes. -/
theorem readHumidityGivesPhysicalValue : Obligations.ReadHumidityGivesPhysicalValue := by
  intro b0 b1 tail rest before
  have hcount := rawCountHumidity_eq_slices (asmFrame (some b0 :: some b1 :: tail))
  have hanswers := transcript_assembleProgram (items := [.readH 2 (some b0 :: some b1 :: tail)]) rest before
    (by simp [expand, assemble, Instr.frameLen])
  refine ⟨_, _, hanswers, ?composed⟩
  case composed => exact (composeReading_humidity _).trans (congrArg (some <| phys .humidity ·) hcount)

/-- Settles O48: the three requests are answered as their operations are, and the answers compose to PHYS of the count,
which is two slices of the bytes. -/
theorem readTemperatureGivesPhysicalValue : Obligations.ReadTemperatureGivesPhysicalValue := by
  intro b0 b1 b2 b3 rest before
  have hcount := rawCountTemperature_eq_slices (asmFrame [b0, b1, some b2, some b3])
  have hanswers := transcript_assembleProgram (items := [.readT 4 [b0, b1, some b2, some b3]]) rest before
    (by simp [expand, assemble, Instr.frameLen])
  refine ⟨_, _, _, hanswers, ?composed⟩
  case composed => exact (composeReading_temperature _).trans (congrArg (some <| phys .temperature ·) hcount)

end Sys2Proof.PhysicalValues
end
